-- ==== Sys2Proof/Word.lean ====
section
/-! DEFINITION. The word types of the machine (spec 00_scope.md R11, R13): 32-bit registers and
addresses, 16-bit instruction words, 8-bit bytes. -/

namespace Sys2Proof

/-- A 32-bit register, address or PC value (R11). -/
abbrev Word := BitVec 32

/-- A 16-bit instruction word (R120). -/
abbrev Half := BitVec 16

/-- One byte of memory (R80). -/
abbrev Byte := BitVec 8

/-- The width of one port access: 1, 2 or 4 bytes (R7, R11). -/
inductive Width where
  | byte
  | word
  | long
deriving DecidableEq, Repr

end Sys2Proof
end

