-- ==== Sys2Proof/Syntax.lean ====
section
/-! DEFINITION. The instructions: one constructor per row of spec/opcode_table.json, operands in the
assembler's order (R132). A field has exactly the width its encoding gives it (R6, R122), so a register
index is in 0..15 and a bank index in 0..7 by type. -/

namespace Sys2Proof

/-- A general register number 0..15 (R6, R122: n, m). -/
abbrev Reg := BitVec 4

/-- A bank register number 0..7 (R6, R122: b). -/
abbrev BankReg := BitVec 3

/-- One constructor per row of the opcode table. Fields: `m`, `n` registers, `b` bank register,
`i` immediate, `d` displacement field as encoded (unscaled), `op` the low 12 bits of an FPU word. -/
inductive Instr where
  -- Arithmetic, logic and compare (spec 40)
  /-- `ADD Rm,Rn` (R201). -/
  | add (m n : Reg)
  /-- `ADD #imm,Rn` (R202). -/
  | addImm (i : BitVec 8) (n : Reg)
  /-- `ADDC Rm,Rn` (R203). -/
  | addc (m n : Reg)
  /-- `ADDV Rm,Rn` (R204). -/
  | addv (m n : Reg)
  /-- `SUB Rm,Rn` (R205). -/
  | sub (m n : Reg)
  /-- `SUBC Rm,Rn` (R206). -/
  | subc (m n : Reg)
  /-- `SUBV Rm,Rn` (R207). -/
  | subv (m n : Reg)
  /-- `NEG Rm,Rn` (R208). -/
  | neg (m n : Reg)
  /-- `NEGC Rm,Rn` (R209). -/
  | negc (m n : Reg)
  /-- `DT Rn` (R210). -/
  | dt (n : Reg)
  /-- `EXTS.B Rm,Rn` (R211). -/
  | extsB (m n : Reg)
  /-- `EXTS.W Rm,Rn` (R212). -/
  | extsW (m n : Reg)
  /-- `EXTU.B Rm,Rn` (R213). -/
  | extuB (m n : Reg)
  /-- `EXTU.W Rm,Rn` (R214). -/
  | extuW (m n : Reg)
  /-- `CMP/EQ Rm,Rn` (R215). -/
  | cmpEq (m n : Reg)
  /-- `CMP/EQ #imm,R0` (R216). -/
  | cmpEqImm (i : BitVec 8)
  /-- `CMP/HS Rm,Rn` (R217). -/
  | cmpHs (m n : Reg)
  /-- `CMP/GE Rm,Rn` (R218). -/
  | cmpGe (m n : Reg)
  /-- `CMP/HI Rm,Rn` (R219). -/
  | cmpHi (m n : Reg)
  /-- `CMP/GT Rm,Rn` (R220). -/
  | cmpGt (m n : Reg)
  /-- `CMP/PZ Rn` (R221). -/
  | cmpPz (n : Reg)
  /-- `CMP/PL Rn` (R222). -/
  | cmpPl (n : Reg)
  /-- `CMP/STR Rm,Rn` (R223). -/
  | cmpStr (m n : Reg)
  /-- `AND Rm,Rn` (R224). -/
  | andReg (m n : Reg)
  /-- `AND #imm,R0` (R225). -/
  | andImm (i : BitVec 8)
  /-- `AND.B #imm,@(R0,GBR)` (R226). -/
  | andB (i : BitVec 8)
  /-- `OR Rm,Rn` (R227). -/
  | orReg (m n : Reg)
  /-- `OR #imm,R0` (R228). -/
  | orImm (i : BitVec 8)
  /-- `OR.B #imm,@(R0,GBR)` (R229). -/
  | orB (i : BitVec 8)
  /-- `XOR Rm,Rn` (R230). -/
  | xorReg (m n : Reg)
  /-- `XOR #imm,R0` (R231). -/
  | xorImm (i : BitVec 8)
  /-- `XOR.B #imm,@(R0,GBR)` (R232). -/
  | xorB (i : BitVec 8)
  /-- `NOT Rm,Rn` (R233). -/
  | notReg (m n : Reg)
  /-- `TST Rm,Rn` (R234). -/
  | tst (m n : Reg)
  /-- `TST #imm,R0` (R235). -/
  | tstImm (i : BitVec 8)
  /-- `TAS.B @Rn` (R236). -/
  | tasB (n : Reg)
  /-- `TST.B #imm,@(R0,GBR)` (R237). -/
  | tstB (i : BitVec 8)
  -- Shift and rotate (spec 41)
  /-- `SHLL Rn` (R301). -/
  | shll (n : Reg)
  /-- `SHLR Rn` (R302). -/
  | shlr (n : Reg)
  /-- `SHAL Rn` (R303). -/
  | shal (n : Reg)
  /-- `SHAR Rn` (R304). -/
  | shar (n : Reg)
  /-- `SHLL2 Rn` (R305). -/
  | shll2 (n : Reg)
  /-- `SHLR2 Rn` (R306). -/
  | shlr2 (n : Reg)
  /-- `SHLL8 Rn` (R307). -/
  | shll8 (n : Reg)
  /-- `SHLR8 Rn` (R308). -/
  | shlr8 (n : Reg)
  /-- `SHLL16 Rn` (R309). -/
  | shll16 (n : Reg)
  /-- `SHLR16 Rn` (R310). -/
  | shlr16 (n : Reg)
  /-- `ROTL Rn` (R311). -/
  | rotl (n : Reg)
  /-- `ROTR Rn` (R312). -/
  | rotr (n : Reg)
  /-- `ROTCL Rn` (R313). -/
  | rotcl (n : Reg)
  /-- `ROTCR Rn` (R314). -/
  | rotcr (n : Reg)
  /-- `SHAD Rm,Rn` (R315). -/
  | shad (m n : Reg)
  /-- `SHLD Rm,Rn` (R316). -/
  | shld (m n : Reg)
  -- Division step (spec 42)
  /-- `DIV0U` (R351). -/
  | div0u
  /-- `DIV0S Rm,Rn` (R352). -/
  | div0s (m n : Reg)
  /-- `DIV1 Rm,Rn` (R353). -/
  | div1 (m n : Reg)
  -- Multiply and accumulate (spec 43)
  /-- `DMULS.L Rm,Rn` (R372). -/
  | dmulsL (m n : Reg)
  /-- `DMULU.L Rm,Rn` (R373). -/
  | dmuluL (m n : Reg)
  /-- `MUL.L Rm,Rn` (R374). -/
  | mulL (m n : Reg)
  /-- `MULS.W Rm,Rn` (R375). -/
  | mulsW (m n : Reg)
  /-- `MULU.W Rm,Rn` (R376). -/
  | muluW (m n : Reg)
  /-- `MAC.L @Rm+,@Rn+` (R377). -/
  | macL (m n : Reg)
  /-- `MAC.W @Rm+,@Rn+` (R378). -/
  | macW (m n : Reg)
  /-- `CLRMAC` (R379). -/
  | clrmac
  -- Branches (spec 44)
  /-- `BF label` (R410). -/
  | bf (d : BitVec 8)
  /-- `BT label` (R411). -/
  | bt (d : BitVec 8)
  /-- `BF/S label` (R412). -/
  | bfS (d : BitVec 8)
  /-- `BT/S label` (R413). -/
  | btS (d : BitVec 8)
  /-- `BRA label` (R414). -/
  | bra (d : BitVec 12)
  /-- `BRAF Rn` (R415). -/
  | braf (n : Reg)
  /-- `BSR label` (R416). -/
  | bsr (d : BitVec 12)
  /-- `BSRF Rn` (R417). -/
  | bsrf (n : Reg)
  /-- `JMP @Rn` (R418). -/
  | jmp (n : Reg)
  /-- `JSR @Rn` (R419). -/
  | jsr (n : Reg)
  /-- `RTS` (R420). -/
  | rts
  /-- `RTE` (R421). -/
  | rte
  -- Loads, stores and data movement (spec 45)
  /-- `MOV Rm,Rn` (R452). -/
  | movReg (m n : Reg)
  /-- `MOV #imm,Rn` (R453). -/
  | movImm (i : BitVec 8) (n : Reg)
  /-- `MOV.W @(disp,PC),Rn` (R454). -/
  | movWPc (d : BitVec 8) (n : Reg)
  /-- `MOV.L @(disp,PC),Rn` (R455). -/
  | movLPc (d : BitVec 8) (n : Reg)
  /-- `MOV.B Rm,@Rn` (R456). -/
  | movBStore (m n : Reg)
  /-- `MOV.W Rm,@Rn` (R457). -/
  | movWStore (m n : Reg)
  /-- `MOV.L Rm,@Rn` (R458). -/
  | movLStore (m n : Reg)
  /-- `MOV.B @Rm,Rn` (R459). -/
  | movBLoad (m n : Reg)
  /-- `MOV.W @Rm,Rn` (R460). -/
  | movWLoad (m n : Reg)
  /-- `MOV.L @Rm,Rn` (R461). -/
  | movLLoad (m n : Reg)
  /-- `MOV.B Rm,@-Rn` (R462). -/
  | movBStorePre (m n : Reg)
  /-- `MOV.W Rm,@-Rn` (R463). -/
  | movWStorePre (m n : Reg)
  /-- `MOV.L Rm,@-Rn` (R464). -/
  | movLStorePre (m n : Reg)
  /-- `MOV.B @Rm+,Rn` (R465). -/
  | movBLoadPost (m n : Reg)
  /-- `MOV.W @Rm+,Rn` (R466). -/
  | movWLoadPost (m n : Reg)
  /-- `MOV.L @Rm+,Rn` (R467). -/
  | movLLoadPost (m n : Reg)
  /-- `MOV.B R0,@(disp,Rn)` (R468). -/
  | movBStoreDisp (d : BitVec 4) (n : Reg)
  /-- `MOV.W R0,@(disp,Rn)` (R469). -/
  | movWStoreDisp (d : BitVec 4) (n : Reg)
  /-- `MOV.L Rm,@(disp,Rn)` (R470). -/
  | movLStoreDisp (m : Reg) (d : BitVec 4) (n : Reg)
  /-- `MOV.B @(disp,Rm),R0` (R471). -/
  | movBLoadDisp (d : BitVec 4) (m : Reg)
  /-- `MOV.W @(disp,Rm),R0` (R472). -/
  | movWLoadDisp (d : BitVec 4) (m : Reg)
  /-- `MOV.L @(disp,Rm),Rn` (R473). -/
  | movLLoadDisp (d : BitVec 4) (m n : Reg)
  /-- `MOV.B Rm,@(R0,Rn)` (R474). -/
  | movBStoreIdx (m n : Reg)
  /-- `MOV.W Rm,@(R0,Rn)` (R475). -/
  | movWStoreIdx (m n : Reg)
  /-- `MOV.L Rm,@(R0,Rn)` (R476). -/
  | movLStoreIdx (m n : Reg)
  /-- `MOV.B @(R0,Rm),Rn` (R477). -/
  | movBLoadIdx (m n : Reg)
  /-- `MOV.W @(R0,Rm),Rn` (R478). -/
  | movWLoadIdx (m n : Reg)
  /-- `MOV.L @(R0,Rm),Rn` (R479). -/
  | movLLoadIdx (m n : Reg)
  /-- `MOV.B R0,@(disp,GBR)` (R480). -/
  | movBStoreGbr (d : BitVec 8)
  /-- `MOV.W R0,@(disp,GBR)` (R481). -/
  | movWStoreGbr (d : BitVec 8)
  /-- `MOV.L R0,@(disp,GBR)` (R482). -/
  | movLStoreGbr (d : BitVec 8)
  /-- `MOV.B @(disp,GBR),R0` (R483). -/
  | movBLoadGbr (d : BitVec 8)
  /-- `MOV.W @(disp,GBR),R0` (R484). -/
  | movWLoadGbr (d : BitVec 8)
  /-- `MOV.L @(disp,GBR),R0` (R485). -/
  | movLLoadGbr (d : BitVec 8)
  /-- `MOVA @(disp,PC),R0` (R486). -/
  | mova (d : BitVec 8)
  /-- `MOVT Rn` (R487). -/
  | movt (n : Reg)
  /-- `SWAP.B Rm,Rn` (R488). -/
  | swapB (m n : Reg)
  /-- `SWAP.W Rm,Rn` (R489). -/
  | swapW (m n : Reg)
  /-- `XTRCT Rm,Rn` (R490). -/
  | xtrct (m n : Reg)
  /-- `MOVCA.L R0,@Rn` (R491). -/
  | movcaL (n : Reg)
  /-- `MOVLI.L @Rm,R0` (R492). -/
  | movliL (m : Reg)
  /-- `MOVCO.L R0,@Rn` (R493). -/
  | movcoL (n : Reg)
  /-- `MOVUA.L @Rm,R0` (R494). -/
  | movuaL (m : Reg)
  /-- `MOVUA.L @Rm+,R0` (R495). -/
  | movuaLPost (m : Reg)
  -- Control and system register transfer (spec 46)
  /-- `LDC Rm,SR` (R521). -/
  | ldcSr (m : Reg)
  /-- `LDC Rm,GBR` (R522). -/
  | ldcGbr (m : Reg)
  /-- `LDC Rm,VBR` (R523). -/
  | ldcVbr (m : Reg)
  /-- `LDC Rm,SGR` (R524). -/
  | ldcSgr (m : Reg)
  /-- `LDC Rm,SSR` (R525). -/
  | ldcSsr (m : Reg)
  /-- `LDC Rm,SPC` (R526). -/
  | ldcSpc (m : Reg)
  /-- `LDC Rm,DBR` (R527). -/
  | ldcDbr (m : Reg)
  /-- `LDC Rm,Rn_BANK` (R528). -/
  | ldcBank (m : Reg) (b : BankReg)
  /-- `LDC.L @Rm+,SR` (R529). -/
  | ldcLSr (m : Reg)
  /-- `LDC.L @Rm+,GBR` (R530). -/
  | ldcLGbr (m : Reg)
  /-- `LDC.L @Rm+,VBR` (R531). -/
  | ldcLVbr (m : Reg)
  /-- `LDC.L @Rm+,SGR` (R532). -/
  | ldcLSgr (m : Reg)
  /-- `LDC.L @Rm+,SSR` (R533). -/
  | ldcLSsr (m : Reg)
  /-- `LDC.L @Rm+,SPC` (R534). -/
  | ldcLSpc (m : Reg)
  /-- `LDC.L @Rm+,DBR` (R535). -/
  | ldcLDbr (m : Reg)
  /-- `LDC.L @Rm+,Rn_BANK` (R536). -/
  | ldcLBank (m : Reg) (b : BankReg)
  /-- `LDS Rm,MACH` (R537). -/
  | ldsMach (m : Reg)
  /-- `LDS Rm,MACL` (R538). -/
  | ldsMacl (m : Reg)
  /-- `LDS Rm,PR` (R539). -/
  | ldsPr (m : Reg)
  /-- `LDS.L @Rm+,MACH` (R540). -/
  | ldsLMach (m : Reg)
  /-- `LDS.L @Rm+,MACL` (R541). -/
  | ldsLMacl (m : Reg)
  /-- `LDS.L @Rm+,PR` (R542). -/
  | ldsLPr (m : Reg)
  /-- `STC SR,Rn` (R543). -/
  | stcSr (n : Reg)
  /-- `STC GBR,Rn` (R544). -/
  | stcGbr (n : Reg)
  /-- `STC VBR,Rn` (R545). -/
  | stcVbr (n : Reg)
  /-- `STC SGR,Rn` (R546). -/
  | stcSgr (n : Reg)
  /-- `STC SSR,Rn` (R547). -/
  | stcSsr (n : Reg)
  /-- `STC SPC,Rn` (R548). -/
  | stcSpc (n : Reg)
  /-- `STC DBR,Rn` (R549). -/
  | stcDbr (n : Reg)
  /-- `STC Rm_BANK,Rn` (R550). -/
  | stcBank (b : BankReg) (n : Reg)
  /-- `STC.L SR,@-Rn` (R551). -/
  | stcLSr (n : Reg)
  /-- `STC.L GBR,@-Rn` (R552). -/
  | stcLGbr (n : Reg)
  /-- `STC.L VBR,@-Rn` (R553). -/
  | stcLVbr (n : Reg)
  /-- `STC.L SGR,@-Rn` (R554). -/
  | stcLSgr (n : Reg)
  /-- `STC.L SSR,@-Rn` (R555). -/
  | stcLSsr (n : Reg)
  /-- `STC.L SPC,@-Rn` (R556). -/
  | stcLSpc (n : Reg)
  /-- `STC.L DBR,@-Rn` (R557). -/
  | stcLDbr (n : Reg)
  /-- `STC.L Rm_BANK,@-Rn` (R558). -/
  | stcLBank (b : BankReg) (n : Reg)
  /-- `STS MACH,Rn` (R559). -/
  | stsMach (n : Reg)
  /-- `STS MACL,Rn` (R560). -/
  | stsMacl (n : Reg)
  /-- `STS PR,Rn` (R561). -/
  | stsPr (n : Reg)
  /-- `STS.L MACH,@-Rn` (R562). -/
  | stsLMach (n : Reg)
  /-- `STS.L MACL,@-Rn` (R563). -/
  | stsLMacl (n : Reg)
  /-- `STS.L PR,@-Rn` (R564). -/
  | stsLPr (n : Reg)
  -- Flags, cache, TLB, trap, synchronisation, sleep (spec 47)
  /-- `CLRT` (R570). -/
  | clrt
  /-- `SETT` (R571). -/
  | sett
  /-- `CLRS` (R572). -/
  | clrs
  /-- `SETS` (R573). -/
  | sets
  /-- `ICBI @Rn` (R574). -/
  | icbi (n : Reg)
  /-- `PREF @Rn` (R575). -/
  | pref (n : Reg)
  /-- `PREFI @Rn` (R576). -/
  | prefi (n : Reg)
  /-- `OCBI @Rn` (R577). -/
  | ocbi (n : Reg)
  /-- `OCBP @Rn` (R578). -/
  | ocbp (n : Reg)
  /-- `OCBWB @Rn` (R579). -/
  | ocbwb (n : Reg)
  /-- `LDTLB` (R580). -/
  | ldtlb
  /-- `NOP` (R581). -/
  | nop
  /-- `TRAPA #imm` (R582). -/
  | trapa (i : BitVec 8)
  /-- `SYNCO` (R583). -/
  | synco
  /-- `SLEEP` (R586). -/
  | sleep
  -- FPU words: decoded, then refused (spec 30 R128)
  /-- `FPU group (all Fxxx)` (R128). -/
  | fpuGroup (op : BitVec 12)
  /-- `LDS Rm,FPUL` (R128). -/
  | ldsFpul (m : Reg)
  /-- `LDS Rm,FPSCR` (R128). -/
  | ldsFpscr (m : Reg)
  /-- `LDS.L @Rm+,FPUL` (R128). -/
  | ldsLFpul (m : Reg)
  /-- `LDS.L @Rm+,FPSCR` (R128). -/
  | ldsLFpscr (m : Reg)
  /-- `STS FPUL,Rn` (R128). -/
  | stsFpul (n : Reg)
  /-- `STS FPSCR,Rn` (R128). -/
  | stsFpscr (n : Reg)
  /-- `STS.L FPUL,@-Rn` (R128). -/
  | stsLFpul (n : Reg)
  /-- `STS.L FPSCR,@-Rn` (R128). -/
  | stsLFpscr (n : Reg)
deriving DecidableEq, Repr

end Sys2Proof
end

