-- ==== Sys2Proof/Decode.lean ====
section
/-! DEFINITION. Decode and encode (spec 30_encoding.md). `decode` is total on all 65536 words (R127):
it answers the row's instruction, an FPU word included (R128, refused by its meaning), or the name of
the rejection (R129). A word is read nibble by nibble: `a` is bits 15:12, `b` 11:8, `c` 7:4, `d` 3:0. -/

namespace Sys2Proof

/-- Why a word does not decode. `undefinedWord`: it matches no row of the opcode map (R129). The
machine then raises an exception or faults as R129 says, so the rejection is safe. -/
inductive DecodeError where
  | undefinedWord
deriving DecidableEq, Repr

/-- Nibble `k` of a value: bits 4k+3 .. 4k. -/
def nib {w : Nat} (v : BitVec w) (k : Nat) : BitVec 4 := v.extractLsb' (4 * k) 4

/-- The word whose nibbles are, most significant first, `a b c d` (R121, R122). -/
def nibbles (a b c d : BitVec 4) : Half := a ++ b ++ c ++ d

/-- Words `0000 bbbb cccc dddd` (R126, R128). -/
def decodeGroup0 (b c d : BitVec 4) : Option Instr :=
  match d with
  | 0x2#4 =>
    if c.msb then some (.stcBank (c.extractLsb' 0 3) b) else
    match c with
    | 0x0#4 => some (.stcSr b)
    | 0x1#4 => some (.stcGbr b)
    | 0x2#4 => some (.stcVbr b)
    | 0x3#4 => some (.stcSsr b)
    | 0x4#4 => some (.stcSpc b)
    | _ => none
  | 0x3#4 =>
    match c with
    | 0x0#4 => some (.bsrf b)
    | 0x2#4 => some (.braf b)
    | 0x6#4 => some (.movliL b)
    | 0x7#4 => some (.movcoL b)
    | 0x8#4 => some (.pref b)
    | 0x9#4 => some (.ocbi b)
    | 0xA#4 => some (.ocbp b)
    | 0xB#4 => some (.ocbwb b)
    | 0xC#4 => some (.movcaL b)
    | 0xD#4 => some (.prefi b)
    | 0xE#4 => some (.icbi b)
    | _ => none
  | 0x4#4 => some (.movBStoreIdx c b)
  | 0x5#4 => some (.movWStoreIdx c b)
  | 0x6#4 => some (.movLStoreIdx c b)
  | 0x7#4 => some (.mulL c b)
  | 0x8#4 =>
    match c with
    | 0x0#4 => if b = 0#4 then some .clrt else none
    | 0x1#4 => if b = 0#4 then some .sett else none
    | 0x2#4 => if b = 0#4 then some .clrmac else none
    | 0x3#4 => if b = 0#4 then some .ldtlb else none
    | 0x4#4 => if b = 0#4 then some .clrs else none
    | 0x5#4 => if b = 0#4 then some .sets else none
    | _ => none
  | 0x9#4 =>
    match c with
    | 0x0#4 => if b = 0#4 then some .nop else none
    | 0x1#4 => if b = 0#4 then some .div0u else none
    | 0x2#4 => some (.movt b)
    | _ => none
  | 0xA#4 =>
    match c with
    | 0x0#4 => some (.stsMach b)
    | 0x1#4 => some (.stsMacl b)
    | 0x2#4 => some (.stsPr b)
    | 0x3#4 => some (.stcSgr b)
    | 0x5#4 => some (.stsFpul b)
    | 0x6#4 => some (.stsFpscr b)
    | 0xF#4 => some (.stcDbr b)
    | _ => none
  | 0xB#4 =>
    match c with
    | 0x0#4 => if b = 0#4 then some .rts else none
    | 0x1#4 => if b = 0#4 then some .sleep else none
    | 0x2#4 => if b = 0#4 then some .rte else none
    | 0xA#4 => if b = 0#4 then some .synco else none
    | _ => none
  | 0xC#4 => some (.movBLoadIdx c b)
  | 0xD#4 => some (.movWLoadIdx c b)
  | 0xE#4 => some (.movLLoadIdx c b)
  | 0xF#4 => some (.macL c b)
  | _ => none

/-- Words `0001 bbbb cccc dddd` (R126, R128). -/
def decodeGroup1 (b c d : BitVec 4) : Option Instr :=
  some (.movLStoreDisp c d b)

/-- Words `0010 bbbb cccc dddd` (R126, R128). -/
def decodeGroup2 (b c d : BitVec 4) : Option Instr :=
  match d with
  | 0x0#4 => some (.movBStore c b)
  | 0x1#4 => some (.movWStore c b)
  | 0x2#4 => some (.movLStore c b)
  | 0x4#4 => some (.movBStorePre c b)
  | 0x5#4 => some (.movWStorePre c b)
  | 0x6#4 => some (.movLStorePre c b)
  | 0x7#4 => some (.div0s c b)
  | 0x8#4 => some (.tst c b)
  | 0x9#4 => some (.andReg c b)
  | 0xA#4 => some (.xorReg c b)
  | 0xB#4 => some (.orReg c b)
  | 0xC#4 => some (.cmpStr c b)
  | 0xD#4 => some (.xtrct c b)
  | 0xE#4 => some (.muluW c b)
  | 0xF#4 => some (.mulsW c b)
  | _ => none

/-- Words `0011 bbbb cccc dddd` (R126, R128). -/
def decodeGroup3 (b c d : BitVec 4) : Option Instr :=
  match d with
  | 0x0#4 => some (.cmpEq c b)
  | 0x2#4 => some (.cmpHs c b)
  | 0x3#4 => some (.cmpGe c b)
  | 0x4#4 => some (.div1 c b)
  | 0x5#4 => some (.dmuluL c b)
  | 0x6#4 => some (.cmpHi c b)
  | 0x7#4 => some (.cmpGt c b)
  | 0x8#4 => some (.sub c b)
  | 0xA#4 => some (.subc c b)
  | 0xB#4 => some (.subv c b)
  | 0xC#4 => some (.add c b)
  | 0xD#4 => some (.dmulsL c b)
  | 0xE#4 => some (.addc c b)
  | 0xF#4 => some (.addv c b)
  | _ => none

/-- Words `0100 bbbb cccc dddd` (R126, R128). -/
def decodeGroup4 (b c d : BitVec 4) : Option Instr :=
  match d with
  | 0x0#4 =>
    match c with
    | 0x0#4 => some (.shll b)
    | 0x1#4 => some (.dt b)
    | 0x2#4 => some (.shal b)
    | _ => none
  | 0x1#4 =>
    match c with
    | 0x0#4 => some (.shlr b)
    | 0x1#4 => some (.cmpPz b)
    | 0x2#4 => some (.shar b)
    | _ => none
  | 0x2#4 =>
    match c with
    | 0x0#4 => some (.stsLMach b)
    | 0x1#4 => some (.stsLMacl b)
    | 0x2#4 => some (.stsLPr b)
    | 0x3#4 => some (.stcLSgr b)
    | 0x5#4 => some (.stsLFpul b)
    | 0x6#4 => some (.stsLFpscr b)
    | 0xF#4 => some (.stcLDbr b)
    | _ => none
  | 0x3#4 =>
    if c.msb then some (.stcLBank (c.extractLsb' 0 3) b) else
    match c with
    | 0x0#4 => some (.stcLSr b)
    | 0x1#4 => some (.stcLGbr b)
    | 0x2#4 => some (.stcLVbr b)
    | 0x3#4 => some (.stcLSsr b)
    | 0x4#4 => some (.stcLSpc b)
    | _ => none
  | 0x4#4 =>
    match c with
    | 0x0#4 => some (.rotl b)
    | 0x2#4 => some (.rotcl b)
    | _ => none
  | 0x5#4 =>
    match c with
    | 0x0#4 => some (.rotr b)
    | 0x1#4 => some (.cmpPl b)
    | 0x2#4 => some (.rotcr b)
    | _ => none
  | 0x6#4 =>
    match c with
    | 0x0#4 => some (.ldsLMach b)
    | 0x1#4 => some (.ldsLMacl b)
    | 0x2#4 => some (.ldsLPr b)
    | 0x3#4 => some (.ldcLSgr b)
    | 0x5#4 => some (.ldsLFpul b)
    | 0x6#4 => some (.ldsLFpscr b)
    | 0xF#4 => some (.ldcLDbr b)
    | _ => none
  | 0x7#4 =>
    if c.msb then some (.ldcLBank b (c.extractLsb' 0 3)) else
    match c with
    | 0x0#4 => some (.ldcLSr b)
    | 0x1#4 => some (.ldcLGbr b)
    | 0x2#4 => some (.ldcLVbr b)
    | 0x3#4 => some (.ldcLSsr b)
    | 0x4#4 => some (.ldcLSpc b)
    | _ => none
  | 0x8#4 =>
    match c with
    | 0x0#4 => some (.shll2 b)
    | 0x1#4 => some (.shll8 b)
    | 0x2#4 => some (.shll16 b)
    | _ => none
  | 0x9#4 =>
    match c with
    | 0x0#4 => some (.shlr2 b)
    | 0x1#4 => some (.shlr8 b)
    | 0x2#4 => some (.shlr16 b)
    | 0xA#4 => some (.movuaL b)
    | 0xE#4 => some (.movuaLPost b)
    | _ => none
  | 0xA#4 =>
    match c with
    | 0x0#4 => some (.ldsMach b)
    | 0x1#4 => some (.ldsMacl b)
    | 0x2#4 => some (.ldsPr b)
    | 0x3#4 => some (.ldcSgr b)
    | 0x5#4 => some (.ldsFpul b)
    | 0x6#4 => some (.ldsFpscr b)
    | 0xF#4 => some (.ldcDbr b)
    | _ => none
  | 0xB#4 =>
    match c with
    | 0x0#4 => some (.jsr b)
    | 0x1#4 => some (.tasB b)
    | 0x2#4 => some (.jmp b)
    | _ => none
  | 0xC#4 => some (.shad c b)
  | 0xD#4 => some (.shld c b)
  | 0xE#4 =>
    if c.msb then some (.ldcBank b (c.extractLsb' 0 3)) else
    match c with
    | 0x0#4 => some (.ldcSr b)
    | 0x1#4 => some (.ldcGbr b)
    | 0x2#4 => some (.ldcVbr b)
    | 0x3#4 => some (.ldcSsr b)
    | 0x4#4 => some (.ldcSpc b)
    | _ => none
  | _ => some (.macW c b)

/-- Words `0101 bbbb cccc dddd` (R126, R128). -/
def decodeGroup5 (b c d : BitVec 4) : Option Instr :=
  some (.movLLoadDisp d c b)

/-- Words `0110 bbbb cccc dddd` (R126, R128). -/
def decodeGroup6 (b c d : BitVec 4) : Option Instr :=
  match d with
  | 0x0#4 => some (.movBLoad c b)
  | 0x1#4 => some (.movWLoad c b)
  | 0x2#4 => some (.movLLoad c b)
  | 0x3#4 => some (.movReg c b)
  | 0x4#4 => some (.movBLoadPost c b)
  | 0x5#4 => some (.movWLoadPost c b)
  | 0x6#4 => some (.movLLoadPost c b)
  | 0x7#4 => some (.notReg c b)
  | 0x8#4 => some (.swapB c b)
  | 0x9#4 => some (.swapW c b)
  | 0xA#4 => some (.negc c b)
  | 0xB#4 => some (.neg c b)
  | 0xC#4 => some (.extuB c b)
  | 0xD#4 => some (.extuW c b)
  | 0xE#4 => some (.extsB c b)
  | _ => some (.extsW c b)

/-- Words `0111 bbbb cccc dddd` (R126, R128). -/
def decodeGroup7 (b c d : BitVec 4) : Option Instr :=
  some (.addImm (c ++ d) b)

/-- Words `1000 bbbb cccc dddd` (R126, R128). -/
def decodeGroup8 (b c d : BitVec 4) : Option Instr :=
  match b with
  | 0x0#4 => some (.movBStoreDisp d c)
  | 0x1#4 => some (.movWStoreDisp d c)
  | 0x4#4 => some (.movBLoadDisp d c)
  | 0x5#4 => some (.movWLoadDisp d c)
  | 0x8#4 => some (.cmpEqImm (c ++ d))
  | 0x9#4 => some (.bt (c ++ d))
  | 0xB#4 => some (.bf (c ++ d))
  | 0xD#4 => some (.btS (c ++ d))
  | 0xF#4 => some (.bfS (c ++ d))
  | _ => none

/-- Words `1001 bbbb cccc dddd` (R126, R128). -/
def decodeGroup9 (b c d : BitVec 4) : Option Instr :=
  some (.movWPc (c ++ d) b)

/-- Words `1010 bbbb cccc dddd` (R126, R128). -/
def decodeGroupA (b c d : BitVec 4) : Option Instr :=
  some (.bra (b ++ c ++ d))

/-- Words `1011 bbbb cccc dddd` (R126, R128). -/
def decodeGroupB (b c d : BitVec 4) : Option Instr :=
  some (.bsr (b ++ c ++ d))

/-- Words `1100 bbbb cccc dddd` (R126, R128). -/
def decodeGroupC (b c d : BitVec 4) : Option Instr :=
  match b with
  | 0x0#4 => some (.movBStoreGbr (c ++ d))
  | 0x1#4 => some (.movWStoreGbr (c ++ d))
  | 0x2#4 => some (.movLStoreGbr (c ++ d))
  | 0x3#4 => some (.trapa (c ++ d))
  | 0x4#4 => some (.movBLoadGbr (c ++ d))
  | 0x5#4 => some (.movWLoadGbr (c ++ d))
  | 0x6#4 => some (.movLLoadGbr (c ++ d))
  | 0x7#4 => some (.mova (c ++ d))
  | 0x8#4 => some (.tstImm (c ++ d))
  | 0x9#4 => some (.andImm (c ++ d))
  | 0xA#4 => some (.xorImm (c ++ d))
  | 0xB#4 => some (.orImm (c ++ d))
  | 0xC#4 => some (.tstB (c ++ d))
  | 0xD#4 => some (.andB (c ++ d))
  | 0xE#4 => some (.xorB (c ++ d))
  | _ => some (.orB (c ++ d))

/-- Words `1101 bbbb cccc dddd` (R126, R128). -/
def decodeGroupD (b c d : BitVec 4) : Option Instr :=
  some (.movLPc (c ++ d) b)

/-- Words `1110 bbbb cccc dddd` (R126, R128). -/
def decodeGroupE (b c d : BitVec 4) : Option Instr :=
  some (.movImm (c ++ d) b)

/-- Words `1111 bbbb cccc dddd` (R126, R128). -/
def decodeGroupF (b c d : BitVec 4) : Option Instr :=
  some (.fpuGroup (b ++ c ++ d))

/-- The row whose nibbles are `a b c d`, if any (R126, R128). -/
def decodeNibbles (a b c d : BitVec 4) : Option Instr :=
  match a with
  | 0x0#4 => decodeGroup0 b c d
  | 0x1#4 => decodeGroup1 b c d
  | 0x2#4 => decodeGroup2 b c d
  | 0x3#4 => decodeGroup3 b c d
  | 0x4#4 => decodeGroup4 b c d
  | 0x5#4 => decodeGroup5 b c d
  | 0x6#4 => decodeGroup6 b c d
  | 0x7#4 => decodeGroup7 b c d
  | 0x8#4 => decodeGroup8 b c d
  | 0x9#4 => decodeGroup9 b c d
  | 0xA#4 => decodeGroupA b c d
  | 0xB#4 => decodeGroupB b c d
  | 0xC#4 => decodeGroupC b c d
  | 0xD#4 => decodeGroupD b c d
  | 0xE#4 => decodeGroupE b c d
  | _ => decodeGroupF b c d

/-- `Decode(w)` of R127: total, and rejecting by name. -/
def decode (w : Half) : Except DecodeError Instr :=
  match decodeNibbles (nib w 3) (nib w 2) (nib w 1) (nib w 0) with
  | some i => .ok i
  | none => .error .undefinedWord

/-- An instruction word from its two bytes in memory, the byte at the lower address first, in
little-endian order (R121: the byte at a holds bits 7..0). -/
def wordOfBytes (lower upper : Byte) : Half := upper ++ lower

/-- The decoder on an instruction's bytes as the reset machine stores them, lowest address first. -/
def decodeBytes (lower upper : Byte) : Except DecodeError Instr := decode (wordOfBytes lower upper)

/-- The instruction the decoder reads from the low `nbits` bits of `w`, bit 0 the least significant bit
of the one 16-bit word (every instruction is one word, R120), the bits above `nbits` zero. -/
def decodeTableWord (nbits w : Nat) : Option Instr :=
  let v : Half := BitVec.ofNat 16 (w % 2 ^ nbits)
  match decodeBytes (v.extractLsb' 0 8) (v.extractLsb' 8 8) with
  | .ok i => some i
  | .error _ => none

/-- The word of an instruction, from the encodings of R126 and R128. -/
def encode (i : Instr) : Half :=
  match i with
  | .add m n => nibbles 0x3#4 n m 0xC#4
  | .addImm i n => nibbles 0x7#4 n (nib i 1) (nib i 0)
  | .addc m n => nibbles 0x3#4 n m 0xE#4
  | .addv m n => nibbles 0x3#4 n m 0xF#4
  | .sub m n => nibbles 0x3#4 n m 0x8#4
  | .subc m n => nibbles 0x3#4 n m 0xA#4
  | .subv m n => nibbles 0x3#4 n m 0xB#4
  | .neg m n => nibbles 0x6#4 n m 0xB#4
  | .negc m n => nibbles 0x6#4 n m 0xA#4
  | .dt n => nibbles 0x4#4 n 0x1#4 0x0#4
  | .extsB m n => nibbles 0x6#4 n m 0xE#4
  | .extsW m n => nibbles 0x6#4 n m 0xF#4
  | .extuB m n => nibbles 0x6#4 n m 0xC#4
  | .extuW m n => nibbles 0x6#4 n m 0xD#4
  | .cmpEq m n => nibbles 0x3#4 n m 0x0#4
  | .cmpEqImm i => nibbles 0x8#4 0x8#4 (nib i 1) (nib i 0)
  | .cmpHs m n => nibbles 0x3#4 n m 0x2#4
  | .cmpGe m n => nibbles 0x3#4 n m 0x3#4
  | .cmpHi m n => nibbles 0x3#4 n m 0x6#4
  | .cmpGt m n => nibbles 0x3#4 n m 0x7#4
  | .cmpPz n => nibbles 0x4#4 n 0x1#4 0x1#4
  | .cmpPl n => nibbles 0x4#4 n 0x1#4 0x5#4
  | .cmpStr m n => nibbles 0x2#4 n m 0xC#4
  | .andReg m n => nibbles 0x2#4 n m 0x9#4
  | .andImm i => nibbles 0xC#4 0x9#4 (nib i 1) (nib i 0)
  | .andB i => nibbles 0xC#4 0xD#4 (nib i 1) (nib i 0)
  | .orReg m n => nibbles 0x2#4 n m 0xB#4
  | .orImm i => nibbles 0xC#4 0xB#4 (nib i 1) (nib i 0)
  | .orB i => nibbles 0xC#4 0xF#4 (nib i 1) (nib i 0)
  | .xorReg m n => nibbles 0x2#4 n m 0xA#4
  | .xorImm i => nibbles 0xC#4 0xA#4 (nib i 1) (nib i 0)
  | .xorB i => nibbles 0xC#4 0xE#4 (nib i 1) (nib i 0)
  | .notReg m n => nibbles 0x6#4 n m 0x7#4
  | .tst m n => nibbles 0x2#4 n m 0x8#4
  | .tstImm i => nibbles 0xC#4 0x8#4 (nib i 1) (nib i 0)
  | .tasB n => nibbles 0x4#4 n 0x1#4 0xB#4
  | .tstB i => nibbles 0xC#4 0xC#4 (nib i 1) (nib i 0)
  | .shll n => nibbles 0x4#4 n 0x0#4 0x0#4
  | .shlr n => nibbles 0x4#4 n 0x0#4 0x1#4
  | .shal n => nibbles 0x4#4 n 0x2#4 0x0#4
  | .shar n => nibbles 0x4#4 n 0x2#4 0x1#4
  | .shll2 n => nibbles 0x4#4 n 0x0#4 0x8#4
  | .shlr2 n => nibbles 0x4#4 n 0x0#4 0x9#4
  | .shll8 n => nibbles 0x4#4 n 0x1#4 0x8#4
  | .shlr8 n => nibbles 0x4#4 n 0x1#4 0x9#4
  | .shll16 n => nibbles 0x4#4 n 0x2#4 0x8#4
  | .shlr16 n => nibbles 0x4#4 n 0x2#4 0x9#4
  | .rotl n => nibbles 0x4#4 n 0x0#4 0x4#4
  | .rotr n => nibbles 0x4#4 n 0x0#4 0x5#4
  | .rotcl n => nibbles 0x4#4 n 0x2#4 0x4#4
  | .rotcr n => nibbles 0x4#4 n 0x2#4 0x5#4
  | .shad m n => nibbles 0x4#4 n m 0xC#4
  | .shld m n => nibbles 0x4#4 n m 0xD#4
  | .div0u => nibbles 0x0#4 0x0#4 0x1#4 0x9#4
  | .div0s m n => nibbles 0x2#4 n m 0x7#4
  | .div1 m n => nibbles 0x3#4 n m 0x4#4
  | .dmulsL m n => nibbles 0x3#4 n m 0xD#4
  | .dmuluL m n => nibbles 0x3#4 n m 0x5#4
  | .mulL m n => nibbles 0x0#4 n m 0x7#4
  | .mulsW m n => nibbles 0x2#4 n m 0xF#4
  | .muluW m n => nibbles 0x2#4 n m 0xE#4
  | .macL m n => nibbles 0x0#4 n m 0xF#4
  | .macW m n => nibbles 0x4#4 n m 0xF#4
  | .clrmac => nibbles 0x0#4 0x0#4 0x2#4 0x8#4
  | .bf d => nibbles 0x8#4 0xB#4 (nib d 1) (nib d 0)
  | .bt d => nibbles 0x8#4 0x9#4 (nib d 1) (nib d 0)
  | .bfS d => nibbles 0x8#4 0xF#4 (nib d 1) (nib d 0)
  | .btS d => nibbles 0x8#4 0xD#4 (nib d 1) (nib d 0)
  | .bra d => nibbles 0xA#4 (nib d 2) (nib d 1) (nib d 0)
  | .braf n => nibbles 0x0#4 n 0x2#4 0x3#4
  | .bsr d => nibbles 0xB#4 (nib d 2) (nib d 1) (nib d 0)
  | .bsrf n => nibbles 0x0#4 n 0x0#4 0x3#4
  | .jmp n => nibbles 0x4#4 n 0x2#4 0xB#4
  | .jsr n => nibbles 0x4#4 n 0x0#4 0xB#4
  | .rts => nibbles 0x0#4 0x0#4 0x0#4 0xB#4
  | .rte => nibbles 0x0#4 0x0#4 0x2#4 0xB#4
  | .movReg m n => nibbles 0x6#4 n m 0x3#4
  | .movImm i n => nibbles 0xE#4 n (nib i 1) (nib i 0)
  | .movWPc d n => nibbles 0x9#4 n (nib d 1) (nib d 0)
  | .movLPc d n => nibbles 0xD#4 n (nib d 1) (nib d 0)
  | .movBStore m n => nibbles 0x2#4 n m 0x0#4
  | .movWStore m n => nibbles 0x2#4 n m 0x1#4
  | .movLStore m n => nibbles 0x2#4 n m 0x2#4
  | .movBLoad m n => nibbles 0x6#4 n m 0x0#4
  | .movWLoad m n => nibbles 0x6#4 n m 0x1#4
  | .movLLoad m n => nibbles 0x6#4 n m 0x2#4
  | .movBStorePre m n => nibbles 0x2#4 n m 0x4#4
  | .movWStorePre m n => nibbles 0x2#4 n m 0x5#4
  | .movLStorePre m n => nibbles 0x2#4 n m 0x6#4
  | .movBLoadPost m n => nibbles 0x6#4 n m 0x4#4
  | .movWLoadPost m n => nibbles 0x6#4 n m 0x5#4
  | .movLLoadPost m n => nibbles 0x6#4 n m 0x6#4
  | .movBStoreDisp d n => nibbles 0x8#4 0x0#4 n d
  | .movWStoreDisp d n => nibbles 0x8#4 0x1#4 n d
  | .movLStoreDisp m d n => nibbles 0x1#4 n m d
  | .movBLoadDisp d m => nibbles 0x8#4 0x4#4 m d
  | .movWLoadDisp d m => nibbles 0x8#4 0x5#4 m d
  | .movLLoadDisp d m n => nibbles 0x5#4 n m d
  | .movBStoreIdx m n => nibbles 0x0#4 n m 0x4#4
  | .movWStoreIdx m n => nibbles 0x0#4 n m 0x5#4
  | .movLStoreIdx m n => nibbles 0x0#4 n m 0x6#4
  | .movBLoadIdx m n => nibbles 0x0#4 n m 0xC#4
  | .movWLoadIdx m n => nibbles 0x0#4 n m 0xD#4
  | .movLLoadIdx m n => nibbles 0x0#4 n m 0xE#4
  | .movBStoreGbr d => nibbles 0xC#4 0x0#4 (nib d 1) (nib d 0)
  | .movWStoreGbr d => nibbles 0xC#4 0x1#4 (nib d 1) (nib d 0)
  | .movLStoreGbr d => nibbles 0xC#4 0x2#4 (nib d 1) (nib d 0)
  | .movBLoadGbr d => nibbles 0xC#4 0x4#4 (nib d 1) (nib d 0)
  | .movWLoadGbr d => nibbles 0xC#4 0x5#4 (nib d 1) (nib d 0)
  | .movLLoadGbr d => nibbles 0xC#4 0x6#4 (nib d 1) (nib d 0)
  | .mova d => nibbles 0xC#4 0x7#4 (nib d 1) (nib d 0)
  | .movt n => nibbles 0x0#4 n 0x2#4 0x9#4
  | .swapB m n => nibbles 0x6#4 n m 0x8#4
  | .swapW m n => nibbles 0x6#4 n m 0x9#4
  | .xtrct m n => nibbles 0x2#4 n m 0xD#4
  | .movcaL n => nibbles 0x0#4 n 0xC#4 0x3#4
  | .movliL m => nibbles 0x0#4 m 0x6#4 0x3#4
  | .movcoL n => nibbles 0x0#4 n 0x7#4 0x3#4
  | .movuaL m => nibbles 0x4#4 m 0xA#4 0x9#4
  | .movuaLPost m => nibbles 0x4#4 m 0xE#4 0x9#4
  | .ldcSr m => nibbles 0x4#4 m 0x0#4 0xE#4
  | .ldcGbr m => nibbles 0x4#4 m 0x1#4 0xE#4
  | .ldcVbr m => nibbles 0x4#4 m 0x2#4 0xE#4
  | .ldcSgr m => nibbles 0x4#4 m 0x3#4 0xA#4
  | .ldcSsr m => nibbles 0x4#4 m 0x3#4 0xE#4
  | .ldcSpc m => nibbles 0x4#4 m 0x4#4 0xE#4
  | .ldcDbr m => nibbles 0x4#4 m 0xF#4 0xA#4
  | .ldcBank m b => nibbles 0x4#4 m (1#1 ++ b) 0xE#4
  | .ldcLSr m => nibbles 0x4#4 m 0x0#4 0x7#4
  | .ldcLGbr m => nibbles 0x4#4 m 0x1#4 0x7#4
  | .ldcLVbr m => nibbles 0x4#4 m 0x2#4 0x7#4
  | .ldcLSgr m => nibbles 0x4#4 m 0x3#4 0x6#4
  | .ldcLSsr m => nibbles 0x4#4 m 0x3#4 0x7#4
  | .ldcLSpc m => nibbles 0x4#4 m 0x4#4 0x7#4
  | .ldcLDbr m => nibbles 0x4#4 m 0xF#4 0x6#4
  | .ldcLBank m b => nibbles 0x4#4 m (1#1 ++ b) 0x7#4
  | .ldsMach m => nibbles 0x4#4 m 0x0#4 0xA#4
  | .ldsMacl m => nibbles 0x4#4 m 0x1#4 0xA#4
  | .ldsPr m => nibbles 0x4#4 m 0x2#4 0xA#4
  | .ldsLMach m => nibbles 0x4#4 m 0x0#4 0x6#4
  | .ldsLMacl m => nibbles 0x4#4 m 0x1#4 0x6#4
  | .ldsLPr m => nibbles 0x4#4 m 0x2#4 0x6#4
  | .stcSr n => nibbles 0x0#4 n 0x0#4 0x2#4
  | .stcGbr n => nibbles 0x0#4 n 0x1#4 0x2#4
  | .stcVbr n => nibbles 0x0#4 n 0x2#4 0x2#4
  | .stcSgr n => nibbles 0x0#4 n 0x3#4 0xA#4
  | .stcSsr n => nibbles 0x0#4 n 0x3#4 0x2#4
  | .stcSpc n => nibbles 0x0#4 n 0x4#4 0x2#4
  | .stcDbr n => nibbles 0x0#4 n 0xF#4 0xA#4
  | .stcBank b n => nibbles 0x0#4 n (1#1 ++ b) 0x2#4
  | .stcLSr n => nibbles 0x4#4 n 0x0#4 0x3#4
  | .stcLGbr n => nibbles 0x4#4 n 0x1#4 0x3#4
  | .stcLVbr n => nibbles 0x4#4 n 0x2#4 0x3#4
  | .stcLSgr n => nibbles 0x4#4 n 0x3#4 0x2#4
  | .stcLSsr n => nibbles 0x4#4 n 0x3#4 0x3#4
  | .stcLSpc n => nibbles 0x4#4 n 0x4#4 0x3#4
  | .stcLDbr n => nibbles 0x4#4 n 0xF#4 0x2#4
  | .stcLBank b n => nibbles 0x4#4 n (1#1 ++ b) 0x3#4
  | .stsMach n => nibbles 0x0#4 n 0x0#4 0xA#4
  | .stsMacl n => nibbles 0x0#4 n 0x1#4 0xA#4
  | .stsPr n => nibbles 0x0#4 n 0x2#4 0xA#4
  | .stsLMach n => nibbles 0x4#4 n 0x0#4 0x2#4
  | .stsLMacl n => nibbles 0x4#4 n 0x1#4 0x2#4
  | .stsLPr n => nibbles 0x4#4 n 0x2#4 0x2#4
  | .clrt => nibbles 0x0#4 0x0#4 0x0#4 0x8#4
  | .sett => nibbles 0x0#4 0x0#4 0x1#4 0x8#4
  | .clrs => nibbles 0x0#4 0x0#4 0x4#4 0x8#4
  | .sets => nibbles 0x0#4 0x0#4 0x5#4 0x8#4
  | .icbi n => nibbles 0x0#4 n 0xE#4 0x3#4
  | .pref n => nibbles 0x0#4 n 0x8#4 0x3#4
  | .prefi n => nibbles 0x0#4 n 0xD#4 0x3#4
  | .ocbi n => nibbles 0x0#4 n 0x9#4 0x3#4
  | .ocbp n => nibbles 0x0#4 n 0xA#4 0x3#4
  | .ocbwb n => nibbles 0x0#4 n 0xB#4 0x3#4
  | .ldtlb => nibbles 0x0#4 0x0#4 0x3#4 0x8#4
  | .nop => nibbles 0x0#4 0x0#4 0x0#4 0x9#4
  | .trapa i => nibbles 0xC#4 0x3#4 (nib i 1) (nib i 0)
  | .synco => nibbles 0x0#4 0x0#4 0xA#4 0xB#4
  | .sleep => nibbles 0x0#4 0x0#4 0x1#4 0xB#4
  | .fpuGroup op => nibbles 0xF#4 (nib op 2) (nib op 1) (nib op 0)
  | .ldsFpul m => nibbles 0x4#4 m 0x5#4 0xA#4
  | .ldsFpscr m => nibbles 0x4#4 m 0x6#4 0xA#4
  | .ldsLFpul m => nibbles 0x4#4 m 0x5#4 0x6#4
  | .ldsLFpscr m => nibbles 0x4#4 m 0x6#4 0x6#4
  | .stsFpul n => nibbles 0x0#4 n 0x5#4 0xA#4
  | .stsFpscr n => nibbles 0x0#4 n 0x6#4 0xA#4
  | .stsLFpul n => nibbles 0x4#4 n 0x5#4 0x2#4
  | .stsLFpscr n => nibbles 0x4#4 n 0x6#4 0x2#4

/-- An instruction's bytes in memory, lowest address first, little-endian (R121). -/
def encodeBytes (i : Instr) : List Byte := [(encode i).extractLsb' 0 8, (encode i).extractLsb' 8 8]

/-- An instruction's row of the opcode table, its mask and its match (R126, R128): a word `w` encodes the
row's instruction iff `w AND mask = match`. -/
def Instr.row (i : Instr) : Half × Half :=
  match i with
  | .add _ _ => (0xF00F, 0x300C)
  | .addImm _ _ => (0xF000, 0x7000)
  | .addc _ _ => (0xF00F, 0x300E)
  | .addv _ _ => (0xF00F, 0x300F)
  | .sub _ _ => (0xF00F, 0x3008)
  | .subc _ _ => (0xF00F, 0x300A)
  | .subv _ _ => (0xF00F, 0x300B)
  | .neg _ _ => (0xF00F, 0x600B)
  | .negc _ _ => (0xF00F, 0x600A)
  | .dt _ => (0xF0FF, 0x4010)
  | .extsB _ _ => (0xF00F, 0x600E)
  | .extsW _ _ => (0xF00F, 0x600F)
  | .extuB _ _ => (0xF00F, 0x600C)
  | .extuW _ _ => (0xF00F, 0x600D)
  | .cmpEq _ _ => (0xF00F, 0x3000)
  | .cmpEqImm _ => (0xFF00, 0x8800)
  | .cmpHs _ _ => (0xF00F, 0x3002)
  | .cmpGe _ _ => (0xF00F, 0x3003)
  | .cmpHi _ _ => (0xF00F, 0x3006)
  | .cmpGt _ _ => (0xF00F, 0x3007)
  | .cmpPz _ => (0xF0FF, 0x4011)
  | .cmpPl _ => (0xF0FF, 0x4015)
  | .cmpStr _ _ => (0xF00F, 0x200C)
  | .andReg _ _ => (0xF00F, 0x2009)
  | .andImm _ => (0xFF00, 0xC900)
  | .andB _ => (0xFF00, 0xCD00)
  | .orReg _ _ => (0xF00F, 0x200B)
  | .orImm _ => (0xFF00, 0xCB00)
  | .orB _ => (0xFF00, 0xCF00)
  | .xorReg _ _ => (0xF00F, 0x200A)
  | .xorImm _ => (0xFF00, 0xCA00)
  | .xorB _ => (0xFF00, 0xCE00)
  | .notReg _ _ => (0xF00F, 0x6007)
  | .tst _ _ => (0xF00F, 0x2008)
  | .tstImm _ => (0xFF00, 0xC800)
  | .tasB _ => (0xF0FF, 0x401B)
  | .tstB _ => (0xFF00, 0xCC00)
  | .shll _ => (0xF0FF, 0x4000)
  | .shlr _ => (0xF0FF, 0x4001)
  | .shal _ => (0xF0FF, 0x4020)
  | .shar _ => (0xF0FF, 0x4021)
  | .shll2 _ => (0xF0FF, 0x4008)
  | .shlr2 _ => (0xF0FF, 0x4009)
  | .shll8 _ => (0xF0FF, 0x4018)
  | .shlr8 _ => (0xF0FF, 0x4019)
  | .shll16 _ => (0xF0FF, 0x4028)
  | .shlr16 _ => (0xF0FF, 0x4029)
  | .rotl _ => (0xF0FF, 0x4004)
  | .rotr _ => (0xF0FF, 0x4005)
  | .rotcl _ => (0xF0FF, 0x4024)
  | .rotcr _ => (0xF0FF, 0x4025)
  | .shad _ _ => (0xF00F, 0x400C)
  | .shld _ _ => (0xF00F, 0x400D)
  | .div0u => (0xFFFF, 0x0019)
  | .div0s _ _ => (0xF00F, 0x2007)
  | .div1 _ _ => (0xF00F, 0x3004)
  | .dmulsL _ _ => (0xF00F, 0x300D)
  | .dmuluL _ _ => (0xF00F, 0x3005)
  | .mulL _ _ => (0xF00F, 0x0007)
  | .mulsW _ _ => (0xF00F, 0x200F)
  | .muluW _ _ => (0xF00F, 0x200E)
  | .macL _ _ => (0xF00F, 0x000F)
  | .macW _ _ => (0xF00F, 0x400F)
  | .clrmac => (0xFFFF, 0x0028)
  | .bf _ => (0xFF00, 0x8B00)
  | .bt _ => (0xFF00, 0x8900)
  | .bfS _ => (0xFF00, 0x8F00)
  | .btS _ => (0xFF00, 0x8D00)
  | .bra _ => (0xF000, 0xA000)
  | .braf _ => (0xF0FF, 0x0023)
  | .bsr _ => (0xF000, 0xB000)
  | .bsrf _ => (0xF0FF, 0x0003)
  | .jmp _ => (0xF0FF, 0x402B)
  | .jsr _ => (0xF0FF, 0x400B)
  | .rts => (0xFFFF, 0x000B)
  | .rte => (0xFFFF, 0x002B)
  | .movReg _ _ => (0xF00F, 0x6003)
  | .movImm _ _ => (0xF000, 0xE000)
  | .movWPc _ _ => (0xF000, 0x9000)
  | .movLPc _ _ => (0xF000, 0xD000)
  | .movBStore _ _ => (0xF00F, 0x2000)
  | .movWStore _ _ => (0xF00F, 0x2001)
  | .movLStore _ _ => (0xF00F, 0x2002)
  | .movBLoad _ _ => (0xF00F, 0x6000)
  | .movWLoad _ _ => (0xF00F, 0x6001)
  | .movLLoad _ _ => (0xF00F, 0x6002)
  | .movBStorePre _ _ => (0xF00F, 0x2004)
  | .movWStorePre _ _ => (0xF00F, 0x2005)
  | .movLStorePre _ _ => (0xF00F, 0x2006)
  | .movBLoadPost _ _ => (0xF00F, 0x6004)
  | .movWLoadPost _ _ => (0xF00F, 0x6005)
  | .movLLoadPost _ _ => (0xF00F, 0x6006)
  | .movBStoreDisp _ _ => (0xFF00, 0x8000)
  | .movWStoreDisp _ _ => (0xFF00, 0x8100)
  | .movLStoreDisp _ _ _ => (0xF000, 0x1000)
  | .movBLoadDisp _ _ => (0xFF00, 0x8400)
  | .movWLoadDisp _ _ => (0xFF00, 0x8500)
  | .movLLoadDisp _ _ _ => (0xF000, 0x5000)
  | .movBStoreIdx _ _ => (0xF00F, 0x0004)
  | .movWStoreIdx _ _ => (0xF00F, 0x0005)
  | .movLStoreIdx _ _ => (0xF00F, 0x0006)
  | .movBLoadIdx _ _ => (0xF00F, 0x000C)
  | .movWLoadIdx _ _ => (0xF00F, 0x000D)
  | .movLLoadIdx _ _ => (0xF00F, 0x000E)
  | .movBStoreGbr _ => (0xFF00, 0xC000)
  | .movWStoreGbr _ => (0xFF00, 0xC100)
  | .movLStoreGbr _ => (0xFF00, 0xC200)
  | .movBLoadGbr _ => (0xFF00, 0xC400)
  | .movWLoadGbr _ => (0xFF00, 0xC500)
  | .movLLoadGbr _ => (0xFF00, 0xC600)
  | .mova _ => (0xFF00, 0xC700)
  | .movt _ => (0xF0FF, 0x0029)
  | .swapB _ _ => (0xF00F, 0x6008)
  | .swapW _ _ => (0xF00F, 0x6009)
  | .xtrct _ _ => (0xF00F, 0x200D)
  | .movcaL _ => (0xF0FF, 0x00C3)
  | .movliL _ => (0xF0FF, 0x0063)
  | .movcoL _ => (0xF0FF, 0x0073)
  | .movuaL _ => (0xF0FF, 0x40A9)
  | .movuaLPost _ => (0xF0FF, 0x40E9)
  | .ldcSr _ => (0xF0FF, 0x400E)
  | .ldcGbr _ => (0xF0FF, 0x401E)
  | .ldcVbr _ => (0xF0FF, 0x402E)
  | .ldcSgr _ => (0xF0FF, 0x403A)
  | .ldcSsr _ => (0xF0FF, 0x403E)
  | .ldcSpc _ => (0xF0FF, 0x404E)
  | .ldcDbr _ => (0xF0FF, 0x40FA)
  | .ldcBank _ _ => (0xF08F, 0x408E)
  | .ldcLSr _ => (0xF0FF, 0x4007)
  | .ldcLGbr _ => (0xF0FF, 0x4017)
  | .ldcLVbr _ => (0xF0FF, 0x4027)
  | .ldcLSgr _ => (0xF0FF, 0x4036)
  | .ldcLSsr _ => (0xF0FF, 0x4037)
  | .ldcLSpc _ => (0xF0FF, 0x4047)
  | .ldcLDbr _ => (0xF0FF, 0x40F6)
  | .ldcLBank _ _ => (0xF08F, 0x4087)
  | .ldsMach _ => (0xF0FF, 0x400A)
  | .ldsMacl _ => (0xF0FF, 0x401A)
  | .ldsPr _ => (0xF0FF, 0x402A)
  | .ldsLMach _ => (0xF0FF, 0x4006)
  | .ldsLMacl _ => (0xF0FF, 0x4016)
  | .ldsLPr _ => (0xF0FF, 0x4026)
  | .stcSr _ => (0xF0FF, 0x0002)
  | .stcGbr _ => (0xF0FF, 0x0012)
  | .stcVbr _ => (0xF0FF, 0x0022)
  | .stcSgr _ => (0xF0FF, 0x003A)
  | .stcSsr _ => (0xF0FF, 0x0032)
  | .stcSpc _ => (0xF0FF, 0x0042)
  | .stcDbr _ => (0xF0FF, 0x00FA)
  | .stcBank _ _ => (0xF08F, 0x0082)
  | .stcLSr _ => (0xF0FF, 0x4003)
  | .stcLGbr _ => (0xF0FF, 0x4013)
  | .stcLVbr _ => (0xF0FF, 0x4023)
  | .stcLSgr _ => (0xF0FF, 0x4032)
  | .stcLSsr _ => (0xF0FF, 0x4033)
  | .stcLSpc _ => (0xF0FF, 0x4043)
  | .stcLDbr _ => (0xF0FF, 0x40F2)
  | .stcLBank _ _ => (0xF08F, 0x4083)
  | .stsMach _ => (0xF0FF, 0x000A)
  | .stsMacl _ => (0xF0FF, 0x001A)
  | .stsPr _ => (0xF0FF, 0x002A)
  | .stsLMach _ => (0xF0FF, 0x4002)
  | .stsLMacl _ => (0xF0FF, 0x4012)
  | .stsLPr _ => (0xF0FF, 0x4022)
  | .clrt => (0xFFFF, 0x0008)
  | .sett => (0xFFFF, 0x0018)
  | .clrs => (0xFFFF, 0x0048)
  | .sets => (0xFFFF, 0x0058)
  | .icbi _ => (0xF0FF, 0x00E3)
  | .pref _ => (0xF0FF, 0x0083)
  | .prefi _ => (0xF0FF, 0x00D3)
  | .ocbi _ => (0xF0FF, 0x0093)
  | .ocbp _ => (0xF0FF, 0x00A3)
  | .ocbwb _ => (0xF0FF, 0x00B3)
  | .ldtlb => (0xFFFF, 0x0038)
  | .nop => (0xFFFF, 0x0009)
  | .trapa _ => (0xFF00, 0xC300)
  | .synco => (0xFFFF, 0x00AB)
  | .sleep => (0xFFFF, 0x001B)
  | .fpuGroup _ => (0xF000, 0xF000)
  | .ldsFpul _ => (0xF0FF, 0x405A)
  | .ldsFpscr _ => (0xF0FF, 0x406A)
  | .ldsLFpul _ => (0xF0FF, 0x4056)
  | .ldsLFpscr _ => (0xF0FF, 0x4066)
  | .stsFpul _ => (0xF0FF, 0x005A)
  | .stsFpscr _ => (0xF0FF, 0x006A)
  | .stsLFpul _ => (0xF0FF, 0x4052)
  | .stsLFpscr _ => (0xF0FF, 0x4062)

/-- A word lies in an instruction's row (R126). -/
def Instr.rowHas (i : Instr) (w : Half) : Bool := decide (w &&& i.row.1 = i.row.2)

end Sys2Proof
end

