-- ==== Sys2Proof/Config.lean ====
section
/-! DEFINITION. What an implementation or its platform fixes: the named parameters of spec
00_scope.md R12 with their defaults, the memory port's address map (20_memory.md R92), and the free values
(47_system.md R577; 20_memory.md R92). The parameters are plain data carried by State
(log 1), so that every value of every parameter is modelled and no instruction can change one. -/

namespace Sys2Proof

/-- `ENDIAN` (R12, 20_memory.md R81). -/
inductive Endian where
  | little
  | big
deriving DecidableEq, Repr

/-- `MISALIGNED` (R12, 20_memory.md R84, R88). -/
inductive Misaligned where
  | fault
  | exception
deriving DecidableEq, Repr

/-- `PRIV_CHECK` (R12, 47_system.md R584, R585). -/
inductive PrivCheck where
  | off
  | on
deriving DecidableEq, Repr

/-- `BANK_MODEL` (R12, 10_state.md R32, R33). -/
inductive BankModel where
  | storage
  | architectural
deriving DecidableEq, Repr

/-- `SLOT_PCREL` (R12, 44_branch_delay_slot.md R404). -/
inductive SlotPcRel where
  | fault
  | slotAddress
deriving DecidableEq, Repr

/-- `MACW_SAT_MODE` (R12, 43_multiply_accumulate.md R378). -/
inductive MacwSat where
  | doc64
  | maclOnly
deriving DecidableEq, Repr

/-- `OCBI_MODEL` (R12, 47_system.md R577). -/
inductive OcbiModel where
  | havoc
  | noop
deriving DecidableEq, Repr

/-- `TRAP_ENTRY` (R12, 60_exceptions.md R621). -/
inductive TrapEntry where
  | reference
  | external
deriving DecidableEq, Repr

/-- What the port does with a read of a byte (20_memory.md R92; log 4). `stored`: the byte stored there (RAM,
ROM). `constant`: always the same byte (an open bus). `device`: whatever the device gives, a free value.
`unanswered`: the port has no answer. -/
inductive PortRead where
  | stored
  | constant (value : Byte)
  | device
  | unanswered
deriving DecidableEq, Repr

/-- What the port does with a write of a byte (20_memory.md R92; log 4). `stored`: the byte is stored (RAM).
`absorbed`: the write is answered and stores nothing (ROM that ignores writes, a device). `unanswered`: the
port has no answer. -/
inductive PortWrite where
  | stored
  | absorbed
  | unanswered
deriving DecidableEq, Repr

/-- A region of the address map, `base` up to but not including `base + size`, and what the port does
there (20_memory.md R92). -/
structure Region where
  base : Nat
  size : Nat
  reads : PortRead
  writes : PortWrite
deriving DecidableEq, Repr

/-- The named parameters (R12) with the defaults of R12. DESIGN CHOICE, unsafe: `resetVector` has no
default in the spec and is 0 here (log 2). DESIGN CHOICE, unsafe: `port`, the platform's address map
(20_memory.md R92), lists no region, and an address in no region is RAM (log 4). -/
structure Params where
  endian : Endian := .little
  resetVector : Word := 0
  misaligned : Misaligned := .fault
  privCheck : PrivCheck := .off
  bankModel : BankModel := .storage
  slotPcRel : SlotPcRel := .fault
  macwSat : MacwSat := .doc64
  ocbiModel : OcbiModel := .havoc
  trapEntry : TrapEntry := .reference
  port : List Region := []
deriving DecidableEq, Repr

/-- `draw_byte` of 47_system.md R577: the byte that the `n`-th OCBI leaves at an address. A FREE VALUE:
the constant has no body, so nothing is provable about it (log 6). -/
opaque Config.drawByte : Nat → Word → Byte

/-- What a device answers: the byte that the `n`-th engine step reads at an address of a `device` region
(20_memory.md R92). A FREE VALUE: the constant has no body (log 21). -/
opaque Config.deviceByte : Nat → Word → Byte

end Sys2Proof
end

