-- ==== Sys2Proof/Machine/State.lean ====
section
/-! DEFINITION. The machine's state (spec 10_state.md), its reset (70_reset_and_hazards.md R680), and
the closed lists of reasons a step can stop (00_scope.md R21). -/

namespace Sys2Proof.Machine

/-- Eight 32-bit registers. -/
abbrev Bank := Vector Word 8

/-- Memory behind the port: (address, byte) pairs in one canonical form (see `Memory.wf`). -/
abbrev Memory := List Host.Cell

/-- Why a step stops with no next state (00_scope.md R21). Every one is safe: the machine stops where
the spec gives no effect or itself says `fault`. -/
inductive Fault where
  /-- An instruction of SlotIllegalSet, or an undefined word, stands in a delay slot (44 R403, 30 R129).
  Raised by the delay-slot controller. Safe. -/
  | slotIllegal
  /-- A PC-relative instruction stands in a delay slot with SLOT_PCREL = fault (44 R404). Raised by the
  delay-slot controller. Safe. -/
  | slotPcRelative
  /-- A misaligned word or long data access with MISALIGNED = fault (20 R84). Raised by every aligned
  load and store. Safe. -/
  | misalignedData
  /-- A fetch at an odd PC with MISALIGNED = fault (20 R88). Raised by the fetch. Safe. -/
  | misalignedFetch
  /-- An exception arises while SR.BL = 1 (60 R625). Raised by exception entry. Safe. -/
  | blockedException
  /-- The memory port has no answer for an address of the access: the engine has no step (20 R92).
  Raised by every port access and by the fetch. Safe. -/
  | portNoAnswer
  /-- A step was asked for in a state with DS = DelaySlotPending, which never stands between steps
  (10 R49). Raised by `engineStep` only. Safe (log 15). -/
  | slotPending
deriving DecidableEq, Repr

/-- Why an instruction has no meaning. -/
inductive Refusal where
  /-- No meaning is written for the instruction: raised by no arm of `exec` (kept for the dispatcher's
  form). Safe. -/
  | notModelled (mnemonic : String)
  /-- An FPU word: "the block has no FPU, so these words have no meaning in this model" (30 R128).
  Raised by the meanings of the nine FPU rows. Safe. -/
  | fpuInstruction
deriving DecidableEq, Repr

/-- A model mark (10_state.md R50): the engine has faulted or refused, and stays so until a reset (70 R681). -/
inductive Mark where
  | faulted (reason : Fault)
  | refused (reason : Refusal)
deriving DecidableEq, Repr

/-- The exceptions an instruction or a fetch can raise (60_exceptions.md R620), with their information:
the TRAPA immediate, or the faulting address. The other causes of R620 are never raised by the engine. -/
inductive Exc where
  | instructionAddressError (address : Word)
  | dataAddressErrorRead (address : Word)
  | dataAddressErrorWrite (address : Word)
  | trap (imm : BitVec 8)
  | generalIllegalInstruction
  | slotIllegalInstruction
deriving DecidableEq, Repr

/-- What the outcome `Exception(e, info)` holds with TRAP_ENTRY = external (60 R621): the exception with
its immediate or address, its event code and its saved PC. -/
structure Report where
  cause : Exc
  code : Word
  savedPc : Word
deriving DecidableEq, Repr

/-- What returns the state to s0 when a slot instruction raises an exception (44 R405): the branch's
address, and PR and SR before the branch, the only state a branch rule writes (44 R401). -/
structure BranchUndo where
  pc : Word
  pr : Word
  sr : Word
deriving DecidableEq, Repr

/-- Delay-slot controller state DS (10_state.md R49). The undo record is the model's own (log 7). -/
inductive DelayState where
  | normal
  | pending (target : Word) (undo : BranchUndo)
deriving DecidableEq, Repr

/-- An interrupt the collaborator offers (60_exceptions.md R626): NMI, or a level with the platform's
INTEVT code. -/
inductive Interrupt where
  | nmi
  | level (l : BitVec 4) (code : Word)
deriving DecidableEq, Repr

/-- What a debugger may write (00_scope.md R9): one register or one byte of memory. -/
inductive DebugTarget where
  | r (i : Reg)
  | rBank (b : BankReg)
  | sr
  | gbr
  | vbr
  | sgr
  | ssr
  | spc
  | dbr
  | pr
  | mach
  | macl
  | pc
  | ldst
  | sleeping
  | memory (address : Word)
deriving DecidableEq, Repr

/-- What happens between or at engine steps, chosen by the platform (log 10): the engine takes its step
(00 R19); a reset (70 R681); an interrupt is offered (60 R626); a debugger writes (00 R9). -/
inductive Event where
  | engine
  | reset
  | interrupt (offer : Interrupt)
  | debugWrite (target : DebugTarget) (value : Word)
deriving DecidableEq, Repr

/-- The complete state (10_state.md R53), the collaborator's registers (R51), the memory behind the port
(20_memory.md R80) and the model's own fields `params`, `report`, `events`, `draws`, `ticks`. -/
structure State where
  /-- The named parameters (00 R12): no instruction writes them (log 1). -/
  params : Params
  /-- B0[0..7]: R0..R7 unless bank 1 is selected (10 R30, R33). -/
  b0 : Bank
  /-- B1[0..7]: R0_BANK..R7_BANK unless bank 1 is selected (10 R31, R33). -/
  b1 : Bank
  /-- R8..R15 (10 R30, R33). -/
  rh : Bank
  /-- Status register (10 R34, R35). -/
  sr : Word
  /-- Global base register (10 R38). -/
  gbr : Word
  /-- Vector base register (10 R39). -/
  vbr : Word
  /-- Saved R15 (10 R40). -/
  sgr : Word
  /-- Saved status register (10 R41). -/
  ssr : Word
  /-- Saved program counter (10 R42). -/
  spc : Word
  /-- Debug base register (10 R43). -/
  dbr : Word
  /-- Procedure register (10 R44). -/
  pr : Word
  /-- The 64-bit multiply-accumulate register (10 R45). -/
  mac : BitVec 64
  /-- Program counter (10 R46). -/
  pc : Word
  /-- Load-linked flag (10 R47). -/
  ldst : Bool
  /-- Set by SLEEP, cleared by an accepted interrupt or a reset (10 R48). -/
  sleeping : Bool
  /-- Delay-slot controller state (10 R49). -/
  ds : DelayState
  /-- The model mark, if one is set (10 R50; log 20). -/
  mark : Option Mark
  /-- Exception event code, collaborator register (10 R51). -/
  expevt : Word
  /-- Interrupt event code, collaborator register (10 R51). -/
  intevt : Word
  /-- TRAPA immediate times 4, collaborator register (10 R51). -/
  tra : Word
  /-- Faulting address, collaborator register (10 R51). -/
  tea : Word
  /-- The memory behind the port (20 R80, R92). -/
  mem : Memory
  /-- The exception the last engine step reported, with TRAP_ENTRY = external (60 R621; log 12). -/
  report : Option Report
  /-- The platform's coming events (log 10). -/
  events : List Event
  /-- How many OCBI draws have been made: the index of the next free value (log 6). -/
  draws : Nat
  /-- How many steps the engine has begun: the index of what a device answers (log 21). -/
  ticks : Nat
deriving DecidableEq, Repr

/-- Eight registers at zero ("registers zeroed", 70 R680). -/
def Bank.zero : Bank := Vector.replicate 8 0

/-- The machine right after a reset (70 R680) with parameters `p` and nothing in memory. DESIGN CHOICE,
unsafe: EXPEVT, INTEVT, TRA, TEA, which R680 leaves unspecified, are 0 (log 5). -/
def State.resetWith (p : Params) : State where
  params := p
  b0 := Bank.zero
  b1 := Bank.zero
  rh := Bank.zero
  sr := 0
  gbr := 0
  vbr := 0
  sgr := 0
  ssr := 0
  spc := 0
  dbr := 0
  pr := 0
  mac := 0
  pc := p.resetVector
  ldst := false
  sleeping := false
  ds := .normal
  mark := none
  expevt := 0
  intevt := 0
  tra := 0
  tea := 0
  mem := []
  report := none
  events := []
  draws := 0
  ticks := 0

/-- The machine right after reset, every parameter at its default (70 R680, 00 R12). -/
def State.reset : State := State.resetWith {}

end Sys2Proof.Machine
end

