-- ==== Sys2Proof/Machine/Ops.lean ====
section
/-! DEFINITION. The named operations over registers and memory, the access checks, taking an exception
and returning from one, and entering a delayed branch. Every meaning is written over these. -/

namespace Sys2Proof.Machine

/-- What a meaning or a step answers. -/
abbrev Result := Host.Outcome State Fault Refusal

/-! ## Status register (10_state.md R34 to R37) -/

/-- The writable bits of SR (R35). -/
def srMask : Word := 0x700083F3

/-- Bit `k` of a word set to `v`, every other bit kept (R36: "writing a flag writes that SR bit only"). -/
def putBit (w : Word) (k : Nat) (v : Bool) : Word :=
  if v then w ||| BitVec.twoPow 32 k else w &&& ~~~BitVec.twoPow 32 k

/-- T = SR[0] (R36). -/
def State.t (s : State) : Bool := s.sr.getLsbD 0
/-- S = SR[1] (R36). -/
def State.s (s : State) : Bool := s.sr.getLsbD 1
/-- Q = SR[8] (R36). -/
def State.q (s : State) : Bool := s.sr.getLsbD 8
/-- M = SR[9] (R36). -/
def State.m (s : State) : Bool := s.sr.getLsbD 9
/-- IMASK = SR[7:4] (R35). -/
def State.imask (s : State) : BitVec 4 := s.sr.extractLsb' 4 4
/-- FD = SR[15], storage only (R35). -/
def State.fd (s : State) : Bool := s.sr.getLsbD 15
/-- BL = SR[28] (R35). -/
def State.bl (s : State) : Bool := s.sr.getLsbD 28
/-- RB = SR[29] (R35). -/
def State.rb (s : State) : Bool := s.sr.getLsbD 29
/-- MD = SR[30] (R35). -/
def State.md (s : State) : Bool := s.sr.getLsbD 30

/-- Write T (R36). -/
def State.setT (s : State) (v : Bool) : State := { s with sr := putBit s.sr 0 v }
/-- Write S (R36). -/
def State.setS (s : State) (v : Bool) : State := { s with sr := putBit s.sr 1 v }
/-- Write Q (R36). -/
def State.setQ (s : State) (v : Bool) : State := { s with sr := putBit s.sr 8 v }
/-- Write M (R36). -/
def State.setM (s : State) (v : Bool) : State := { s with sr := putBit s.sr 9 v }

/-- Write a whole SR value: "every write of a whole SR value v stores v AND SR_MASK" (R35, R37). -/
def State.setSr (s : State) (v : Word) : State := { s with sr := v &&& srMask }

/-! ## General and bank registers (10_state.md R30 to R33) -/

/-- The low three bits of a register number: its place in a bank of eight. -/
def low3 (i : Reg) : BankReg := i.extractLsb' 0 3

/-- Register `i` of a bank. -/
def Bank.read (b : Bank) (i : BankReg) : Word := b[i.toNat]

/-- A bank with register `i` written. -/
def Bank.write (b : Bank) (i : BankReg) (v : Word) : Bank := b.set i.toNat v

/-- `sel`: bank 1 is selected (R33: "let sel = SR.MD AND SR.RB"; "BANK_MODEL = storage is exactly this
rule with sel held at 0"). -/
def State.sel (s : State) : Bool := decide (s.params.bankModel = .architectural) && (s.md && s.rb)

/-- `R[i]` (R15, R30, R33). -/
def State.r (s : State) (i : Reg) : Word :=
  if i.msb then Bank.read s.rh (low3 i)
  else if s.sel then Bank.read s.b1 (low3 i) else Bank.read s.b0 (low3 i)

/-- `R[i] <- v` (R15, R30, R33). -/
def State.setR (s : State) (i : Reg) (v : Word) : State :=
  if i.msb then { s with rh := Bank.write s.rh (low3 i) v }
  else if s.sel then { s with b1 := Bank.write s.b1 (low3 i) v }
  else { s with b0 := Bank.write s.b0 (low3 i) v }

/-- `R_BANK[b]`: register b of the bank not selected (R31, R33). -/
def State.rBank (s : State) (b : BankReg) : Word :=
  if s.sel then Bank.read s.b0 b else Bank.read s.b1 b

/-- `R_BANK[b] <- v` (R31, R33). -/
def State.setRBank (s : State) (b : BankReg) (v : Word) : State :=
  if s.sel then { s with b0 := Bank.write s.b0 b v } else { s with b1 := Bank.write s.b1 b v }

/-! ## MAC halves (10_state.md R45) -/

/-- MACH = MAC[63:32]. -/
def State.mach (s : State) : Word := s.mac.extractLsb' 32 32
/-- MACL = MAC[31:0]. -/
def State.macl (s : State) : Word := s.mac.extractLsb' 0 32
/-- MACH <- v sets MAC <- (v, MAC[31:0]). -/
def State.setMach (s : State) (v : Word) : State := { s with mac := v ++ s.macl }
/-- MACL <- v sets MAC <- (MAC[63:32], v). -/
def State.setMacl (s : State) (v : Word) : State := { s with mac := s.mach ++ v }

/-! ## Program counter -/

/-- Outcome `Next`: PC <- PC + 2 modulo 2^32 (00 R8, R19; 10 R46). In a delay slot the controller
overwrites PC afterwards (40 R200). -/
def State.advance (s : State) : State := { s with pc := s.pc + 2 }

/-- An instruction that ends in `next` (00 R17). -/
def State.done (s : State) : Result := .next s.advance

/-! ## Memory behind the port (20_memory.md) -/

/-- What an address that is not listed reads as. DESIGN CHOICE, unsafe: the spec leaves the content to
the platform ("any value"); 0 here (log 3). -/
def unlistedByte : Byte := 0

/-- The byte at an address. -/
def Memory.read : Memory → Nat → Byte
  | [], _ => unlistedByte
  | (b, v) :: rest, a => if b = a then v else Memory.read rest a

/-- The memory after one byte is written, in canonical form. -/
def Memory.write : Memory → Nat → Byte → Memory
  | [], a, v => if v = unlistedByte then [] else [(a, v)]
  | (b, w) :: rest, a, v =>
    if a < b then if v = unlistedByte then (b, w) :: rest else (a, v) :: (b, w) :: rest
    else if a = b then if v = unlistedByte then rest else (a, v) :: rest
    else (b, w) :: Memory.write rest a v

/-- Addresses strictly rising from `low`, all 32-bit, no entry equal to what an unlisted address reads. -/
def Memory.wfFrom : Nat → Memory → Bool
  | _, [] => true
  | low, (a, v) :: rest =>
    decide (low ≤ a) && decide (a < 2 ^ 32) && decide (v ≠ unlistedByte) && Memory.wfFrom (a + 1) rest

/-- The canonical form of memory. -/
def Memory.wf (m : Memory) : Bool := Memory.wfFrom 0 m

/-- Direction of a data access (R84). -/
inductive Direction where
  | read
  | write
deriving DecidableEq, Repr

/-- An address lies in a region. -/
def Region.covers (g : Region) (a : Word) : Bool :=
  decide (g.base ≤ a.toNat) && decide (a.toNat < g.base + g.size)

/-- What the port does with a read at `a` (R92): the first region that covers it says; in none, RAM (log 4). -/
def portReads (p : Params) (a : Word) : PortRead :=
  match p.port.find? (Region.covers · a) with
  | some g => g.reads
  | none => .stored

/-- What the port does with a write at `a` (R92; log 4). -/
def portWrites (p : Params) (a : Word) : PortWrite :=
  match p.port.find? (Region.covers · a) with
  | some g => g.writes
  | none => .stored

/-- The port has an answer for one byte of an access (R92). -/
def portAnswers (p : Params) (dir : Direction) (a : Word) : Bool :=
  match dir with
  | .read => decide (portReads p a ≠ .unanswered)
  | .write => decide (portWrites p a ≠ .unanswered)

/-- The memory behind the port after a write of one byte (R92): stored, or absorbed. -/
def portWrite (p : Params) (m : Memory) (a : Word) (v : Byte) : Memory :=
  if portWrites p a = .stored then Memory.write m a.toNat v else m

/-- The byte `b[a]` that a read at `a` gets from the port (R81, R92). A device answers a free value, one for
each engine step (log 21). (An unanswered byte is read by no access.) -/
def State.byteAt (s : State) (a : Word) : Byte :=
  match portReads s.params a with
  | .constant v => v
  | .device => Config.deviceByte s.ticks a
  | .stored | .unanswered => Memory.read s.mem a.toNat

/-- Write the byte at `a` through the port. -/
def State.setByte (s : State) (a : Word) (v : Byte) : State :=
  { s with mem := portWrite s.params s.mem a v }

/-- The byte at `a` is RAM: what is written is stored, and read back (R92). -/
def State.isRam (s : State) (a : Word) : Bool :=
  decide (portReads s.params a = .stored) && decide (portWrites s.params a = .stored)

/-- The `n` bytes from `a` on are RAM. -/
def State.ram (s : State) (a : Word) (n : Nat) : Bool :=
  (List.range n).all fun k => s.isRam (a + BitVec.ofNat 32 k)

/-- The number of bytes of a width. -/
def Width.bytes : Width → Nat
  | .byte => 1
  | .word => 2
  | .long => 4

/-- The access is aligned: "a word access needs a[0] = 0; a long access needs a[1:0] = 0" (R83). -/
def Width.aligned (w : Width) (a : Word) : Bool :=
  match w with
  | .byte => true
  | .word => decide (a.extractLsb' 0 1 = 0)
  | .long => decide (a.extractLsb' 0 2 = 0)

/-- The `w` bytes at `a` as an unsigned value in byte order ENDIAN (00 R20; 20 R81). -/
def State.memRead (s : State) (w : Width) (a : Word) : Word :=
  match w, s.params.endian with
  | .byte, _ => (s.byteAt a).setWidth 32
  | .word, .little => 0#16 ++ s.byteAt (a + 1) ++ s.byteAt a
  | .word, .big => 0#16 ++ s.byteAt a ++ s.byteAt (a + 1)
  | .long, .little => s.byteAt (a + 3) ++ s.byteAt (a + 2) ++ s.byteAt (a + 1) ++ s.byteAt a
  | .long, .big => s.byteAt a ++ s.byteAt (a + 1) ++ s.byteAt (a + 2) ++ s.byteAt (a + 3)

/-- Byte `k` of a word, byte 0 the least significant. -/
def byteOf (v : Word) (k : Nat) : Byte := v.extractLsb' (8 * k) 8

/-- Write the low bytes of `v` at `a` in byte order ENDIAN (00 R20; 20 R81, R82). -/
def State.memWrite (s : State) (w : Width) (a : Word) (v : Word) : State :=
  match w, s.params.endian with
  | .byte, _ => s.setByte a (byteOf v 0)
  | .word, .little => (s.setByte a (byteOf v 0)).setByte (a + 1) (byteOf v 1)
  | .word, .big => (s.setByte a (byteOf v 1)).setByte (a + 1) (byteOf v 0)
  | .long, .little =>
    (((s.setByte a (byteOf v 0)).setByte (a + 1) (byteOf v 1)).setByte (a + 2) (byteOf v 2)).setByte
      (a + 3) (byteOf v 3)
  | .long, .big =>
    (((s.setByte a (byteOf v 3)).setByte (a + 1) (byteOf v 2)).setByte (a + 2) (byteOf v 1)).setByte
      (a + 3) (byteOf v 0)

/-- The port has an answer for the `n` bytes from `a` on (20 R92). -/
def State.answers (s : State) (dir : Direction) (a : Word) (n : Nat) : Bool :=
  (List.range n).all fun k => portAnswers s.params dir (a + BitVec.ofNat 32 k)

/-! ## Exceptions (60_exceptions.md) -/

/-- The EXPEVT code of an exception (R620). -/
def Exc.code : Exc → Word
  | .instructionAddressError _ => 0x0E0
  | .dataAddressErrorRead _ => 0x0E0
  | .dataAddressErrorWrite _ => 0x100
  | .trap _ => 0x160
  | .generalIllegalInstruction => 0x180
  | .slotIllegalInstruction => 0x1A0

/-- The saved PC of an exception raised at `pc` (R620, R636): after the instruction for a trap, the
instruction itself otherwise. -/
def Exc.savedPc (e : Exc) (pc : Word) : Word :=
  match e with
  | .trap _ => pc + 2
  | _ => pc

/-- The vector offset of every general exception (R623). -/
def generalOffset : Word := 0x100

/-- The vector offset of interrupts and NMI (R623). -/
def interruptOffset : Word := 0x600

/-- MD, RB and BL, the SR bits that entry sets (R622). -/
def entryBits : Word := 0x70000000

/-- The state of the pair's start: the state itself outside a slot; in a slot, the state before the
branch, its PR and SR writes undone (44 R405). -/
def State.undoBranch (s : State) : State :=
  match s.ds with
  | .normal => s
  | .pending _ u => { s with pc := u.pc, pr := u.pr, sr := u.sr, ds := .normal }

/-- The collaborator registers an exception writes: EXPEVT always, TRA for a trap, TEA for an address
error (R622). -/
def State.recordCause (s : State) (e : Exc) : State :=
  match e with
  | .trap imm => { s with expevt := e.code, tra := imm.setWidth 32 <<< 2 }
  | .instructionAddressError a => { s with expevt := e.code, tea := a }
  | .dataAddressErrorRead a => { s with expevt := e.code, tea := a }
  | .dataAddressErrorWrite a => { s with expevt := e.code, tea := a }
  | .generalIllegalInstruction => { s with expevt := e.code }
  | .slotIllegalInstruction => { s with expevt := e.code }

/-- The part of the reference entry that exceptions and interrupts share (R622): SPC, SSR, SGR saved,
MD, RB, BL set, LDST cleared, PC at VBR + offset. -/
def State.enterVector (s : State) (savedPc offset : Word) : State :=
  { s with
    spc := savedPc
    ssr := s.sr
    sgr := s.r 15
    sr := s.sr ||| entryBits
    ldst := false
    pc := s.vbr + offset }

/-- TAKING AN EXCEPTION (R621, R622, R625; 44 R405). The instruction has written nothing, so `s` is the
state before it; in a slot the pair is undone first and the exception is the branch's (log 14). With
TRAP_ENTRY = reference the entry is performed, or faults while BL = 1; with TRAP_ENTRY = external the
exception is reported and no architectural state is written. -/
def takeException (e : Exc) (s : State) : Result :=
  let s0 := s.undoBranch
  match s0.params.trapEntry with
  | .external => .next { s0 with report := some ⟨e, e.code, e.savedPc s0.pc⟩ }
  | .reference =>
    if s0.bl then .fault .blockedException
    else .next ((s0.recordCause e).enterVector (e.savedPc s0.pc) generalOffset)

/-! ## Checked accesses (20_memory.md R84, R92) -/

/-- The address error of a direction (R84). -/
def Direction.addressError (d : Direction) (a : Word) : Exc :=
  match d with
  | .read => .dataAddressErrorRead a
  | .write => .dataAddressErrorWrite a

/-- The alignment check, made before the access, and the port's answer (R84, R87, R92). -/
def State.checked (s : State) (dir : Direction) (w : Width) (a : Word) (go : Result) : Result :=
  if Width.aligned w a then
    if s.answers dir a (Width.bytes w) then go else .fault .portNoAnswer
  else
    match s.params.misaligned with
    | .fault => .fault .misalignedData
    | .exception => takeException (dir.addressError a) s

/-- `MemRead(a, n)` (00 R20), its value given to `k`. -/
def State.load (s : State) (w : Width) (a : Word) (k : Word → Result) : Result :=
  s.checked .read w a (k (s.memRead w a))

/-- `MemWrite(a, n, v)` (00 R20), the state after it given to `k`. -/
def State.store (s : State) (w : Width) (a v : Word) (k : State → Result) : Result :=
  s.checked .write w a (k (s.memWrite w a v))

/-- A byte-access sequence over `n` bytes that no alignment rule applies to: only the port's answer is
checked (45 R494; 47 R577). -/
def State.answered (s : State) (dir : Direction) (a : Word) (n : Nat) (go : Result) : Result :=
  if s.answers dir a n then go else .fault .portNoAnswer

/-! ## Fetch (20_memory.md R88) -/

/-- `Fetch(a)`: the instruction word at `a` given to `k`; an odd address faults or raises. -/
def State.fetch (s : State) (a : Word) (k : Half → Result) : Result :=
  if Width.aligned .word a then
    if s.answers .read a 2 then k ((s.memRead .word a).setWidth 16) else .fault .portNoAnswer
  else
    match s.params.misaligned with
    | .fault => .fault .misalignedFetch
    | .exception => takeException (.instructionAddressError a) s

/-! ## Privilege (47_system.md R584, R585) -/

/-- The instruction executes in a delay slot. -/
def State.inSlot (s : State) : Bool :=
  match s.ds with
  | .normal => false
  | .pending _ _ => true

/-- A privileged instruction: with PRIV_CHECK = on and MD = 0 it raises before any access of its own,
GeneralIllegalInstruction outside a slot and SlotIllegalInstruction inside one (R585). -/
def State.privileged (s : State) (go : Result) : Result :=
  if s.params.privCheck = .on ∧ s.md = false then
    takeException (if s.inSlot then .slotIllegalInstruction else .generalIllegalInstruction) s
  else go

/-! ## Delayed branches and the return from an exception (44_branch_delay_slot.md) -/

/-- Outcome `Delayed(t)`: enter DelaySlotPending (R401). `after` is the state with the branch's other
writes applied; PC stays the branch's until the controller runs the slot. -/
def State.delayed (before after : State) (target : Word) : Result :=
  .next { after with ds := .pending target ⟨before.pc, before.pr, before.sr⟩ }

/-- RETURN FROM AN EXCEPTION (R421): SR <- SSR AND SR_MASK at once, SPC the delayed target. -/
def State.returnFromException (s : State) : Result := s.delayed (s.setSr s.ssr) s.spc

/-- Outcome `Jump(t)`: PC <- t at once, no delay slot (00 R8). -/
def State.jump (s : State) (target : Word) : Result := .next { s with pc := target }

end Sys2Proof.Machine
end

