-- ==== Sys2Proof/Machine/Flags.lean ====
section
/-! DEFINITION. Flag computations and exact arithmetic: carry, borrow, signed overflow (40), comparisons
(40 R215 to R223), the division step (42 R353), saturation (43 R371). -/

namespace Sys2Proof.Machine

/-- A flag as the number 0 or 1. -/
def bitNat (b : Bool) : Nat := if b then 1 else 0

/-! ## Carry, borrow, overflow (40_arith_logic_compare.md) -/

/-- The exact sum of ADDC, 0 .. 2^33 - 1 (R203). -/
def addcSum (x y : Word) (t : Bool) : Nat := x.toNat + y.toNat + bitNat t

/-- Carry out: the exact sum does not fit 32 bits (R203). -/
def carryOut (sum : Nat) : Bool := decide (2 ^ 32 ≤ sum)

/-- The exact difference `x - y - t` of SUBC and NEGC (R206, R209). -/
def subcDiff (x y : Word) (t : Bool) : Int := (x.toNat : Int) - y.toNat - bitNat t

/-- Borrow: the exact difference is negative (R206, R209). -/
def borrowOut (diff : Int) : Bool := decide (diff < 0)

/-- Signed overflow of `x + y`: "both operands have the same sign and the result's sign differs" (R204). -/
def addOverflow (x y : Word) : Bool := decide (x.msb = y.msb) && decide ((x + y).msb ≠ x.msb)

/-- Signed overflow of `x - y` (R207). -/
def subOverflow (x y : Word) : Bool := decide (x.msb ≠ y.msb) && decide ((x - y).msb ≠ x.msb)

/-! ## Comparisons (R215 to R223): `x` is Rn, `y` is Rm -/

/-- CMP/EQ (R215). -/
def cmpEq (x y : Word) : Bool := decide (x = y)
/-- CMP/HS, unsigned (R217). -/
def cmpHs (x y : Word) : Bool := decide (y.toNat ≤ x.toNat)
/-- CMP/GE, signed (R218). -/
def cmpGe (x y : Word) : Bool := decide (y.toInt ≤ x.toInt)
/-- CMP/HI, unsigned (R219). -/
def cmpHi (x y : Word) : Bool := decide (y.toNat < x.toNat)
/-- CMP/GT, signed (R220). -/
def cmpGt (x y : Word) : Bool := decide (y.toInt < x.toInt)
/-- CMP/STR: at least one of the four bytes of the XOR is zero (R223). -/
def cmpStr (x y : Word) : Bool :=
  let z := x ^^^ y
  decide (byteOf z 3 = 0) || decide (byteOf z 2 = 0) || decide (byteOf z 1 = 0) || decide (byteOf z 0 = 0)
/-- TST: the AND is zero (R234, R235). -/
def tstZero (x y : Word) : Bool := decide (x &&& y = 0)

/-! ## Division step (42_division.md R353) -/

/-- What DIV1 writes. -/
structure DivStep where
  rn : Word
  q : Bool
  t : Bool
deriving DecidableEq, Repr

/-- One division step from the partial remainder `rn`, the divisor `rm` and the flags (R353): shift left
bringing in T, subtract when the old Q equals M and add otherwise, Q <- msb XOR M XOR carry or borrow,
T <- (Q = M). -/
def div1Step (rn rm : Word) (q m t : Bool) : DivStep :=
  let sh : Word := (rn <<< 1) ||| (if t then 1 else 0)
  let subtract := decide (q = m)
  let r : Word := if subtract then sh - rm else sh + rm
  let c := if subtract then decide (sh.toNat < rm.toNat) else carryOut (sh.toNat + rm.toNat)
  let q' := rn.msb ^^ m ^^ c
  { rn := r, q := q', t := decide (q' = m) }

/-! ## Saturation (43_multiply_accumulate.md R371) -/

/-- `clamp(x, lo, hi)` on exact integers. -/
def clamp (x lo hi : Int) : Int := if x < lo then lo else if hi < x then hi else x

/-- `S32MIN`. -/
def s32Min : Int := -2 ^ 31
/-- `S32MAX`. -/
def s32Max : Int := 2 ^ 31 - 1
/-- `S48MIN`. -/
def s48Min : Int := -2 ^ 47
/-- `S48MAX`. -/
def s48Max : Int := 2 ^ 47 - 1

/-- The new MAC of MAC.L for the exact product `p` (R377). -/
def macLResult (mac : BitVec 64) (p : Int) (sat : Bool) : BitVec 64 :=
  if sat then BitVec.ofInt 64 (clamp ((mac.extractLsb' 0 48).toInt + p) s48Min s48Max)
  else BitVec.ofInt 64 (mac.toInt + p)

/-- The new MAC of MAC.W for the exact product `p` (R378). -/
def macWResult (mode : MacwSat) (mac : BitVec 64) (p : Int) (sat : Bool) : BitVec 64 :=
  if sat then
    match mode with
    | .doc64 => BitVec.ofInt 64 (clamp (mac.toInt + p) s32Min s32Max)
    | .maclOnly =>
      mac.extractLsb' 32 32 ++ BitVec.ofInt 32 (clamp ((mac.extractLsb' 0 32).toInt + p) s32Min s32Max)
  else BitVec.ofInt 64 (mac.toInt + p)

end Sys2Proof.Machine
end

