-- ==== Sys2Proof/Machine/Operands.lean ====
section
/-! DEFINITION. Operand forms: immediates (30_encoding.md R124), effective addresses and branch targets
(R125, 45_load_store.md R450), loads with extension (45 R451), and the pop and push forms (46 R520).
Address arithmetic is modulo 2^32 (20_memory.md R89). -/

namespace Sys2Proof.Machine

/-- `sext_8(i)` (R124). -/
def sext8 (i : BitVec 8) : Word := i.signExtend 32

/-- `zext_8(i)` (R124). -/
def zext8 (i : BitVec 8) : Word := i.setWidth 32

/-! ## Effective addresses (R125, 45 R450) -/

/-- The operand width `sz` as a word, for address arithmetic. -/
def Width.size (w : Width) : Word := BitVec.ofNat 32 (Width.bytes w)

/-- `@(disp,Rn)`: `R + sz * zext_4(d)`. -/
def State.eaDisp (s : State) (w : Width) (i : Reg) (d : BitVec 4) : Word :=
  s.r i + Width.size w * d.setWidth 32

/-- `@(R0,Rn)`: `R[n] + R[0]`. -/
def State.eaIndexed (s : State) (i : Reg) : Word := s.r i + s.r 0

/-- `@(disp,GBR)`: `GBR + sz * zext_8(d)`. -/
def State.eaGbr (s : State) (w : Width) (d : BitVec 8) : Word := s.gbr + Width.size w * zext8 d

/-- `@(R0,GBR)`: `GBR + R[0]` (40 R226). -/
def State.eaGbrR0 (s : State) : Word := s.gbr + s.r 0

/-- `@(disp,PC)`, word: `PC + 4 + 2 * zext_8(d)`; PC is not masked. -/
def State.eaPcWord (s : State) (d : BitVec 8) : Word := s.pc + 4 + 2 * zext8 d

/-- `@(disp,PC)`, long: `(PC AND 0xFFFFFFFC) + 4 + 4 * zext_8(d)`. -/
def State.eaPcLong (s : State) (d : BitVec 8) : Word := (s.pc &&& 0xFFFFFFFC) + 4 + 4 * zext8 d

/-! ## Branch targets (44 R407, R408) -/

/-- `PC + 4 + 2 * sext_8(d)`: BF, BT, BF/S, BT/S. -/
def State.target8 (s : State) (d : BitVec 8) : Word := s.pc + 4 + 2 * sext8 d

/-- `PC + 4 + 2 * sext_12(d)`: BRA, BSR. -/
def State.target12 (s : State) (d : BitVec 12) : Word := s.pc + 4 + 2 * d.signExtend 32

/-- `PC + 4`: the address after the slot, the return address of BSR, BSRF, JSR (44 R416). -/
def State.afterSlot (s : State) : Word := s.pc + 4

/-! ## Loads and stores of a register (45 R451) -/

/-- "Byte and word loads sign-extend into the 32-bit register; long loads do not" (45 R451). -/
def extendLoaded (w : Width) (v : Word) : Word :=
  match w with
  | .byte => (v.setWidth 8).signExtend 32
  | .word => (v.setWidth 16).signExtend 32
  | .long => v

/-- `R[n] <- Load(a, sz)`, then `next`. -/
def State.loadTo (s : State) (w : Width) (a : Word) (n : Reg) : Result :=
  s.load w a fun v => (s.setR n (extendLoaded w v)).done

/-- `@Rm+`: the loaded value to R[n]; R[m] gains the width unless m = n, where the loaded value wins
(45 R451). -/
def State.loadPost (s : State) (w : Width) (m n : Reg) : Result :=
  s.load w (s.r m) fun v =>
    ((if m = n then s else s.setR m (s.r m + Width.size w)).setR n (extendLoaded w v)).done

/-- `MemWrite(a, sz, v)`, then `next`. -/
def State.storeTo (s : State) (w : Width) (a v : Word) : Result := s.store w a v State.done

/-- `@-Rn`: the value `v`, read before the decrement, is stored at R[n] - sz, and R[n] becomes that
address (45 R451, R462 to R464; 46 R520). -/
def State.storePre (s : State) (w : Width) (n : Reg) (v : Word) : Result :=
  s.store w (s.r n - Width.size w) v fun s' => (s'.setR n (s.r n - Width.size w)).done

/-- `v <- MemRead(R[m], 4); R[m] <- R[m] + 4`, the value and the state after both given to `k`
(46 R520: "the pop forms read, then increment, then write the target"). -/
def State.pop (s : State) (m : Reg) (k : State → Word → Result) : Result :=
  s.load .long (s.r m) fun v => k (s.setR m (s.r m + 4)) v

/-- `ReadUnaligned(a)`: the long at any address (45 R494). An aligned address is one long read, any other
four byte reads; either way the value is the four bytes in byte order ENDIAN, and no alignment rule
applies. -/
def State.readUnaligned (s : State) (a : Word) (k : Word → Result) : Result :=
  s.answered .read a 4 (k (s.memRead .long a))

/-- `temp <- MemRead(a, 1); MemWrite(a, 1, f temp)`: the byte read-modify-write, with the byte read also
given to `k` (40 R226, R236; 20 R86). -/
def State.modifyByte (s : State) (a : Word) (f : Byte → Byte) (k : Byte → State → Result) : Result :=
  s.load .byte a fun v => s.store .byte a ((f (v.setWidth 8)).setWidth 32) (k (v.setWidth 8))

end Sys2Proof.Machine
end

