-- ==== Sys2Proof/Machine/Arith.lean ====
section
/-! DEFINITION. Addition, subtraction, extension and comparison (spec 40_arith_logic_compare.md R201 to R223). -/

namespace Sys2Proof.Machine

/-- `ADD Rm,Rn` (R201). No flag; the sum wraps. -/
def execAdd (m n : Reg) (s : State) : Result := (s.setR n (s.r n + s.r m)).done

/-- `ADD #imm,Rn` (R202). The immediate is sign-extended. -/
def execAddImm (i : BitVec 8) (n : Reg) (s : State) : Result := (s.setR n (s.r n + sext8 i)).done

/-- `ADDC Rm,Rn` (R203). T is the carry of the exact sum. -/
def execAddc (m n : Reg) (s : State) : Result :=
  let sum := addcSum (s.r n) (s.r m) s.t
  ((s.setR n (BitVec.ofNat 32 sum)).setT (carryOut sum)).done

/-- `ADDV Rm,Rn` (R204). T is the signed overflow. -/
def execAddv (m n : Reg) (s : State) : Result :=
  ((s.setR n (s.r n + s.r m)).setT (addOverflow (s.r n) (s.r m))).done

/-- `SUB Rm,Rn` (R205). -/
def execSub (m n : Reg) (s : State) : Result := (s.setR n (s.r n - s.r m)).done

/-- `SUBC Rm,Rn` (R206). T is the borrow of the exact difference. -/
def execSubc (m n : Reg) (s : State) : Result :=
  let diff := subcDiff (s.r n) (s.r m) s.t
  ((s.setR n (BitVec.ofInt 32 diff)).setT (borrowOut diff)).done

/-- `SUBV Rm,Rn` (R207). T is the signed overflow. -/
def execSubv (m n : Reg) (s : State) : Result :=
  ((s.setR n (s.r n - s.r m)).setT (subOverflow (s.r n) (s.r m))).done

/-- `NEG Rm,Rn` (R208). -/
def execNeg (m n : Reg) (s : State) : Result := (s.setR n (0 - s.r m)).done

/-- `NEGC Rm,Rn` (R209). T is the borrow of 0 - Rm - T. -/
def execNegc (m n : Reg) (s : State) : Result :=
  let diff := subcDiff 0 (s.r m) s.t
  ((s.setR n (BitVec.ofInt 32 diff)).setT (borrowOut diff)).done

/-- `DT Rn` (R210). T tests the new value. -/
def execDt (n : Reg) (s : State) : Result :=
  ((s.setR n (s.r n - 1)).setT (decide (s.r n - 1 = 0))).done

/-- `EXTS.B Rm,Rn` (R211). -/
def execExtsB (m n : Reg) (s : State) : Result :=
  (s.setR n (((s.r m).setWidth 8).signExtend 32)).done

/-- `EXTS.W Rm,Rn` (R212). -/
def execExtsW (m n : Reg) (s : State) : Result :=
  (s.setR n (((s.r m).setWidth 16).signExtend 32)).done

/-- `EXTU.B Rm,Rn` (R213). -/
def execExtuB (m n : Reg) (s : State) : Result :=
  (s.setR n (((s.r m).setWidth 8).setWidth 32)).done

/-- `EXTU.W Rm,Rn` (R214). -/
def execExtuW (m n : Reg) (s : State) : Result :=
  (s.setR n (((s.r m).setWidth 16).setWidth 32)).done

/-- `CMP/EQ Rm,Rn` (R215). -/
def execCmpEq (m n : Reg) (s : State) : Result := (s.setT (cmpEq (s.r n) (s.r m))).done

/-- `CMP/EQ #imm,R0` (R216). The immediate is sign-extended. -/
def execCmpEqImm (i : BitVec 8) (s : State) : Result := (s.setT (cmpEq (s.r 0) (sext8 i))).done

/-- `CMP/HS Rm,Rn` (R217). Unsigned >=. -/
def execCmpHs (m n : Reg) (s : State) : Result := (s.setT (cmpHs (s.r n) (s.r m))).done

/-- `CMP/GE Rm,Rn` (R218). Signed >=. -/
def execCmpGe (m n : Reg) (s : State) : Result := (s.setT (cmpGe (s.r n) (s.r m))).done

/-- `CMP/HI Rm,Rn` (R219). Unsigned >. -/
def execCmpHi (m n : Reg) (s : State) : Result := (s.setT (cmpHi (s.r n) (s.r m))).done

/-- `CMP/GT Rm,Rn` (R220). Signed >. -/
def execCmpGt (m n : Reg) (s : State) : Result := (s.setT (cmpGt (s.r n) (s.r m))).done

/-- `CMP/PZ Rn` (R221). Signed >= 0. -/
def execCmpPz (n : Reg) (s : State) : Result := (s.setT (cmpGe (s.r n) 0)).done

/-- `CMP/PL Rn` (R222). Signed > 0. -/
def execCmpPl (n : Reg) (s : State) : Result := (s.setT (cmpGt (s.r n) 0)).done

/-- `CMP/STR Rm,Rn` (R223). T if any corresponding bytes are equal. -/
def execCmpStr (m n : Reg) (s : State) : Result := (s.setT (cmpStr (s.r n) (s.r m))).done

end Sys2Proof.Machine
end

