-- ==== Sys2Proof/Machine/Branch.lean ====
section
/-! DEFINITION. Branches (spec 44_branch_delay_slot.md R410 to R421). The delay slot itself is the controller's. -/

namespace Sys2Proof.Machine

/-- `BF label` (R410). No delay slot. -/
def execBf (d : BitVec 8) (s : State) : Result := if s.t then s.done else s.jump (s.target8 d)

/-- `BT label` (R411). No delay slot. -/
def execBt (d : BitVec 8) (s : State) : Result := if s.t then s.jump (s.target8 d) else s.done

/-- `BF/S label` (R412). The next instruction is a slot whether or not it is taken. -/
def execBfS (d : BitVec 8) (s : State) : Result :=
  s.delayed s (if s.t then s.afterSlot else s.target8 d)

/-- `BT/S label` (R413). The next instruction is a slot whether or not it is taken. -/
def execBtS (d : BitVec 8) (s : State) : Result :=
  s.delayed s (if s.t then s.target8 d else s.afterSlot)

/-- `BRA label` (R414). -/
def execBra (d : BitVec 12) (s : State) : Result := s.delayed s (s.target12 d)

/-- `BRAF Rn` (R415). -/
def execBraf (n : Reg) (s : State) : Result := s.delayed s (s.pc + 4 + s.r n)

/-- `BSR label` (R416). PR is written before the slot. -/
def execBsr (d : BitVec 12) (s : State) : Result :=
  s.delayed { s with pr := s.afterSlot } (s.target12 d)

/-- `BSRF Rn` (R417). PR is written before the slot. -/
def execBsrf (n : Reg) (s : State) : Result :=
  s.delayed { s with pr := s.afterSlot } (s.pc + 4 + s.r n)

/-- `JMP @Rn` (R418). The target is not masked (R409). -/
def execJmp (n : Reg) (s : State) : Result := s.delayed s (s.r n)

/-- `JSR @Rn` (R419). PR is written before the slot. -/
def execJsr (n : Reg) (s : State) : Result := s.delayed { s with pr := s.afterSlot } (s.r n)

/-- `RTS` (R420). -/
def execRts (s : State) : Result := s.delayed s s.pr

/-- `RTE` (R421). SR is restored before the slot; privileged (47 R584). -/
def execRte (s : State) : Result := s.privileged s.returnFromException

end Sys2Proof.Machine
end

