-- ==== Sys2Proof/Machine/Control.lean ====
section
/-! DEFINITION. Control and system register transfer (spec 46_control_transfer.md R521 to R564). Every form but
the GBR ones and LDS, STS is in the privileged set of 47_system.md R584. -/

namespace Sys2Proof.Machine

/-- `LDC Rm,SR` (R521). Privileged. -/
def execLdcSr (m : Reg) (s : State) : Result := s.privileged ((s.setSr (s.r m)).done)

/-- `LDC Rm,GBR` (R522). Not privileged. -/
def execLdcGbr (m : Reg) (s : State) : Result := State.done { s with gbr := s.r m }

/-- `LDC Rm,VBR` (R523). Privileged. -/
def execLdcVbr (m : Reg) (s : State) : Result := s.privileged (State.done { s with vbr := s.r m })

/-- `LDC Rm,SGR` (R524). Privileged. -/
def execLdcSgr (m : Reg) (s : State) : Result := s.privileged (State.done { s with sgr := s.r m })

/-- `LDC Rm,SSR` (R525). Privileged. -/
def execLdcSsr (m : Reg) (s : State) : Result := s.privileged (State.done { s with ssr := s.r m })

/-- `LDC Rm,SPC` (R526). Privileged. -/
def execLdcSpc (m : Reg) (s : State) : Result := s.privileged (State.done { s with spc := s.r m })

/-- `LDC Rm,DBR` (R527). Privileged. -/
def execLdcDbr (m : Reg) (s : State) : Result := s.privileged (State.done { s with dbr := s.r m })

/-- `LDC Rm,Rn_BANK` (R528). Privileged. -/
def execLdcBank (m : Reg) (b : BankReg) (s : State) : Result :=
  s.privileged (s.setRBank b (s.r m)).done

/-- `LDC.L @Rm+,SR` (R529). Privileged. -/
def execLdcLSr (m : Reg) (s : State) : Result :=
  s.privileged (s.pop m fun s' v => (s'.setSr v).done)

/-- `LDC.L @Rm+,GBR` (R530). Not privileged. -/
def execLdcLGbr (m : Reg) (s : State) : Result :=
  s.pop m fun s' v => State.done { s' with gbr := v }

/-- `LDC.L @Rm+,VBR` (R531). Privileged. -/
def execLdcLVbr (m : Reg) (s : State) : Result :=
  s.privileged (s.pop m fun s' v => State.done { s' with vbr := v })

/-- `LDC.L @Rm+,SGR` (R532). Privileged. -/
def execLdcLSgr (m : Reg) (s : State) : Result :=
  s.privileged (s.pop m fun s' v => State.done { s' with sgr := v })

/-- `LDC.L @Rm+,SSR` (R533). Privileged. -/
def execLdcLSsr (m : Reg) (s : State) : Result :=
  s.privileged (s.pop m fun s' v => State.done { s' with ssr := v })

/-- `LDC.L @Rm+,SPC` (R534). Privileged. -/
def execLdcLSpc (m : Reg) (s : State) : Result :=
  s.privileged (s.pop m fun s' v => State.done { s' with spc := v })

/-- `LDC.L @Rm+,DBR` (R535). Privileged. -/
def execLdcLDbr (m : Reg) (s : State) : Result :=
  s.privileged (s.pop m fun s' v => State.done { s' with dbr := v })

/-- `LDC.L @Rm+,Rn_BANK` (R536). Privileged. -/
def execLdcLBank (m : Reg) (b : BankReg) (s : State) : Result :=
  s.privileged (s.pop m fun s' v => (s'.setRBank b v).done)

/-- `LDS Rm,MACH` (R537). MACL is unchanged. -/
def execLdsMach (m : Reg) (s : State) : Result := (s.setMach (s.r m)).done

/-- `LDS Rm,MACL` (R538). MACH is unchanged. -/
def execLdsMacl (m : Reg) (s : State) : Result := (s.setMacl (s.r m)).done

/-- `LDS Rm,PR` (R539). -/
def execLdsPr (m : Reg) (s : State) : Result := State.done { s with pr := s.r m }

/-- `LDS.L @Rm+,MACH` (R540). MACL is unchanged. -/
def execLdsLMach (m : Reg) (s : State) : Result := s.pop m fun s' v => (s'.setMach v).done

/-- `LDS.L @Rm+,MACL` (R541). MACH is unchanged. -/
def execLdsLMacl (m : Reg) (s : State) : Result := s.pop m fun s' v => (s'.setMacl v).done

/-- `LDS.L @Rm+,PR` (R542). -/
def execLdsLPr (m : Reg) (s : State) : Result :=
  s.pop m fun s' v => State.done { s' with pr := v }

/-- `STC SR,Rn` (R543). Privileged. -/
def execStcSr (n : Reg) (s : State) : Result := s.privileged (s.setR n s.sr).done

/-- `STC GBR,Rn` (R544). Not privileged. -/
def execStcGbr (n : Reg) (s : State) : Result := (s.setR n s.gbr).done

/-- `STC VBR,Rn` (R545). Privileged. -/
def execStcVbr (n : Reg) (s : State) : Result := s.privileged (s.setR n s.vbr).done

/-- `STC SGR,Rn` (R546). Privileged. -/
def execStcSgr (n : Reg) (s : State) : Result := s.privileged (s.setR n s.sgr).done

/-- `STC SSR,Rn` (R547). Privileged. -/
def execStcSsr (n : Reg) (s : State) : Result := s.privileged (s.setR n s.ssr).done

/-- `STC SPC,Rn` (R548). Privileged. -/
def execStcSpc (n : Reg) (s : State) : Result := s.privileged (s.setR n s.spc).done

/-- `STC DBR,Rn` (R549). Privileged. -/
def execStcDbr (n : Reg) (s : State) : Result := s.privileged (s.setR n s.dbr).done

/-- `STC Rm_BANK,Rn` (R550). Privileged. -/
def execStcBank (b : BankReg) (n : Reg) (s : State) : Result :=
  s.privileged (s.setR n (s.rBank b)).done

/-- `STC.L SR,@-Rn` (R551). Privileged. -/
def execStcLSr (n : Reg) (s : State) : Result := s.privileged (s.storePre .long n s.sr)

/-- `STC.L GBR,@-Rn` (R552). Not privileged. -/
def execStcLGbr (n : Reg) (s : State) : Result := s.storePre .long n s.gbr

/-- `STC.L VBR,@-Rn` (R553). Privileged. -/
def execStcLVbr (n : Reg) (s : State) : Result := s.privileged (s.storePre .long n s.vbr)

/-- `STC.L SGR,@-Rn` (R554). Privileged. -/
def execStcLSgr (n : Reg) (s : State) : Result := s.privileged (s.storePre .long n s.sgr)

/-- `STC.L SSR,@-Rn` (R555). Privileged. -/
def execStcLSsr (n : Reg) (s : State) : Result := s.privileged (s.storePre .long n s.ssr)

/-- `STC.L SPC,@-Rn` (R556). Privileged. -/
def execStcLSpc (n : Reg) (s : State) : Result := s.privileged (s.storePre .long n s.spc)

/-- `STC.L DBR,@-Rn` (R557). Privileged. -/
def execStcLDbr (n : Reg) (s : State) : Result := s.privileged (s.storePre .long n s.dbr)

/-- `STC.L Rm_BANK,@-Rn` (R558). Privileged. -/
def execStcLBank (b : BankReg) (n : Reg) (s : State) : Result :=
  s.privileged (s.storePre .long n (s.rBank b))

/-- `STS MACH,Rn` (R559). -/
def execStsMach (n : Reg) (s : State) : Result := (s.setR n s.mach).done

/-- `STS MACL,Rn` (R560). -/
def execStsMacl (n : Reg) (s : State) : Result := (s.setR n s.macl).done

/-- `STS PR,Rn` (R561). -/
def execStsPr (n : Reg) (s : State) : Result := (s.setR n s.pr).done

/-- `STS.L MACH,@-Rn` (R562). -/
def execStsLMach (n : Reg) (s : State) : Result := s.storePre .long n s.mach

/-- `STS.L MACL,@-Rn` (R563). -/
def execStsLMacl (n : Reg) (s : State) : Result := s.storePre .long n s.macl

/-- `STS.L PR,@-Rn` (R564). -/
def execStsLPr (n : Reg) (s : State) : Result := s.storePre .long n s.pr

end Sys2Proof.Machine
end

