-- ==== Sys2Proof/Machine/Divide.lean ====
section
/-! DEFINITION. The divider: one step per instruction (spec 42_division.md). -/

namespace Sys2Proof.Machine

/-- `DIV0U` (R351). No register is written. -/
def execDiv0u (s : State) : Result := (((s.setM false).setQ false).setT false).done

/-- `DIV0S Rm,Rn` (R352). Q is the sign of Rn, M of Rm, T their difference. -/
def execDiv0s (m n : Reg) (s : State) : Result :=
  let q := (s.r n).msb
  let d := (s.r m).msb
  (((s.setQ q).setM d).setT (decide (d ≠ q))).done

/-- `DIV1 Rm,Rn` (R353). M is read only. -/
def execDiv1 (m n : Reg) (s : State) : Result :=
  let step := div1Step (s.r n) (s.r m) s.q s.m s.t
  (((s.setR n step.rn).setQ step.q).setT step.t).done

end Sys2Proof.Machine
end

