-- ==== Sys2Proof/Machine/Fpu.lean ====
section
/-! DEFINITION. The FPU words: they decode and are refused by name, as R128 says (spec 30_encoding.md). -/

namespace Sys2Proof.Machine

/-- `FPU group (all Fxxx)` (R128). -/
def execFpuGroup (_op : BitVec 12) (_s : State) : Result := .refused .fpuInstruction

/-- `LDS Rm,FPUL` (R128). -/
def execLdsFpul (_m : Reg) (_s : State) : Result := .refused .fpuInstruction

/-- `LDS Rm,FPSCR` (R128). -/
def execLdsFpscr (_m : Reg) (_s : State) : Result := .refused .fpuInstruction

/-- `LDS.L @Rm+,FPUL` (R128). -/
def execLdsLFpul (_m : Reg) (_s : State) : Result := .refused .fpuInstruction

/-- `LDS.L @Rm+,FPSCR` (R128). -/
def execLdsLFpscr (_m : Reg) (_s : State) : Result := .refused .fpuInstruction

/-- `STS FPUL,Rn` (R128). -/
def execStsFpul (_n : Reg) (_s : State) : Result := .refused .fpuInstruction

/-- `STS FPSCR,Rn` (R128). -/
def execStsFpscr (_n : Reg) (_s : State) : Result := .refused .fpuInstruction

/-- `STS.L FPUL,@-Rn` (R128). -/
def execStsLFpul (_n : Reg) (_s : State) : Result := .refused .fpuInstruction

/-- `STS.L FPSCR,@-Rn` (R128). -/
def execStsLFpscr (_n : Reg) (_s : State) : Result := .refused .fpuInstruction

end Sys2Proof.Machine
end

