-- ==== Sys2Proof/Machine/Logic.lean ====
section
/-! DEFINITION. Logic and byte operations in memory (spec 40_arith_logic_compare.md R224 to R237). -/

namespace Sys2Proof.Machine

/-- `AND Rm,Rn` (R224). -/
def execAndReg (m n : Reg) (s : State) : Result := (s.setR n (s.r n &&& s.r m)).done

/-- `AND #imm,R0` (R225). The immediate is zero-extended. -/
def execAndImm (i : BitVec 8) (s : State) : Result := (s.setR 0 (s.r 0 &&& zext8 i)).done

/-- `AND.B #imm,@(R0,GBR)` (R226). The byte at GBR + R0, read then written. -/
def execAndB (i : BitVec 8) (s : State) : Result :=
  s.modifyByte s.eaGbrR0 (fun v => v &&& i) fun _ s' => s'.done

/-- `OR Rm,Rn` (R227). -/
def execOrReg (m n : Reg) (s : State) : Result := (s.setR n (s.r n ||| s.r m)).done

/-- `OR #imm,R0` (R228). The immediate is zero-extended. -/
def execOrImm (i : BitVec 8) (s : State) : Result := (s.setR 0 (s.r 0 ||| zext8 i)).done

/-- `OR.B #imm,@(R0,GBR)` (R229). The byte at GBR + R0, read then written. -/
def execOrB (i : BitVec 8) (s : State) : Result :=
  s.modifyByte s.eaGbrR0 (fun v => v ||| i) fun _ s' => s'.done

/-- `XOR Rm,Rn` (R230). -/
def execXorReg (m n : Reg) (s : State) : Result := (s.setR n (s.r n ^^^ s.r m)).done

/-- `XOR #imm,R0` (R231). The immediate is zero-extended. -/
def execXorImm (i : BitVec 8) (s : State) : Result := (s.setR 0 (s.r 0 ^^^ zext8 i)).done

/-- `XOR.B #imm,@(R0,GBR)` (R232). The byte at GBR + R0, read then written. -/
def execXorB (i : BitVec 8) (s : State) : Result :=
  s.modifyByte s.eaGbrR0 (fun v => v ^^^ i) fun _ s' => s'.done

/-- `NOT Rm,Rn` (R233). -/
def execNotReg (m n : Reg) (s : State) : Result := (s.setR n (~~~(s.r m))).done

/-- `TST Rm,Rn` (R234). No register is written. -/
def execTst (m n : Reg) (s : State) : Result := (s.setT (tstZero (s.r n) (s.r m))).done

/-- `TST #imm,R0` (R235). No register is written. -/
def execTstImm (i : BitVec 8) (s : State) : Result := (s.setT (tstZero (s.r 0) (zext8 i))).done

/-- `TAS.B @Rn` (R236). T tests the byte read; bit 7 is set in memory. -/
def execTasB (n : Reg) (s : State) : Result :=
  s.modifyByte (s.r n) (fun v => v ||| 0x80) fun v s' => (s'.setT (decide (v = 0))).done

/-- `TST.B #imm,@(R0,GBR)` (R237). Memory is not written. -/
def execTstB (i : BitVec 8) (s : State) : Result :=
  s.load .byte s.eaGbrR0 fun v => (s.setT (decide (v.setWidth 8 &&& i = 0))).done

end Sys2Proof.Machine
end

