-- ==== Sys2Proof/Machine/Move.lean ====
section
/-! DEFINITION. Loads, stores and data movement (spec 45_load_store.md R452 to R495). -/

namespace Sys2Proof.Machine

/-- `MOV Rm,Rn` (R452). -/
def execMovReg (m n : Reg) (s : State) : Result := (s.setR n (s.r m)).done

/-- `MOV #imm,Rn` (R453). The immediate is sign-extended. -/
def execMovImm (i : BitVec 8) (n : Reg) (s : State) : Result := (s.setR n (sext8 i)).done

/-- `MOV.W @(disp,PC),Rn` (R454). -/
def execMovWPc (d : BitVec 8) (n : Reg) (s : State) : Result := s.loadTo .word (s.eaPcWord d) n

/-- `MOV.L @(disp,PC),Rn` (R455). -/
def execMovLPc (d : BitVec 8) (n : Reg) (s : State) : Result := s.loadTo .long (s.eaPcLong d) n

/-- `MOV.B Rm,@Rn` (R456). -/
def execMovBStore (m n : Reg) (s : State) : Result := s.storeTo .byte (s.r n) (s.r m)

/-- `MOV.W Rm,@Rn` (R457). -/
def execMovWStore (m n : Reg) (s : State) : Result := s.storeTo .word (s.r n) (s.r m)

/-- `MOV.L Rm,@Rn` (R458). -/
def execMovLStore (m n : Reg) (s : State) : Result := s.storeTo .long (s.r n) (s.r m)

/-- `MOV.B @Rm,Rn` (R459). -/
def execMovBLoad (m n : Reg) (s : State) : Result := s.loadTo .byte (s.r m) n

/-- `MOV.W @Rm,Rn` (R460). -/
def execMovWLoad (m n : Reg) (s : State) : Result := s.loadTo .word (s.r m) n

/-- `MOV.L @Rm,Rn` (R461). -/
def execMovLLoad (m n : Reg) (s : State) : Result := s.loadTo .long (s.r m) n

/-- `MOV.B Rm,@-Rn` (R462). -/
def execMovBStorePre (m n : Reg) (s : State) : Result := s.storePre .byte n (s.r m)

/-- `MOV.W Rm,@-Rn` (R463). -/
def execMovWStorePre (m n : Reg) (s : State) : Result := s.storePre .word n (s.r m)

/-- `MOV.L Rm,@-Rn` (R464). -/
def execMovLStorePre (m n : Reg) (s : State) : Result := s.storePre .long n (s.r m)

/-- `MOV.B @Rm+,Rn` (R465). -/
def execMovBLoadPost (m n : Reg) (s : State) : Result := s.loadPost .byte m n

/-- `MOV.W @Rm+,Rn` (R466). -/
def execMovWLoadPost (m n : Reg) (s : State) : Result := s.loadPost .word m n

/-- `MOV.L @Rm+,Rn` (R467). -/
def execMovLLoadPost (m n : Reg) (s : State) : Result := s.loadPost .long m n

/-- `MOV.B R0,@(disp,Rn)` (R468). -/
def execMovBStoreDisp (d : BitVec 4) (n : Reg) (s : State) : Result :=
  s.storeTo .byte (s.eaDisp .byte n d) (s.r 0)

/-- `MOV.W R0,@(disp,Rn)` (R469). -/
def execMovWStoreDisp (d : BitVec 4) (n : Reg) (s : State) : Result :=
  s.storeTo .word (s.eaDisp .word n d) (s.r 0)

/-- `MOV.L Rm,@(disp,Rn)` (R470). -/
def execMovLStoreDisp (m : Reg) (d : BitVec 4) (n : Reg) (s : State) : Result :=
  s.storeTo .long (s.eaDisp .long n d) (s.r m)

/-- `MOV.B @(disp,Rm),R0` (R471). -/
def execMovBLoadDisp (d : BitVec 4) (m : Reg) (s : State) : Result :=
  s.loadTo .byte (s.eaDisp .byte m d) 0

/-- `MOV.W @(disp,Rm),R0` (R472). -/
def execMovWLoadDisp (d : BitVec 4) (m : Reg) (s : State) : Result :=
  s.loadTo .word (s.eaDisp .word m d) 0

/-- `MOV.L @(disp,Rm),Rn` (R473). -/
def execMovLLoadDisp (d : BitVec 4) (m n : Reg) (s : State) : Result :=
  s.loadTo .long (s.eaDisp .long m d) n

/-- `MOV.B Rm,@(R0,Rn)` (R474). -/
def execMovBStoreIdx (m n : Reg) (s : State) : Result := s.storeTo .byte (s.eaIndexed n) (s.r m)

/-- `MOV.W Rm,@(R0,Rn)` (R475). -/
def execMovWStoreIdx (m n : Reg) (s : State) : Result := s.storeTo .word (s.eaIndexed n) (s.r m)

/-- `MOV.L Rm,@(R0,Rn)` (R476). -/
def execMovLStoreIdx (m n : Reg) (s : State) : Result := s.storeTo .long (s.eaIndexed n) (s.r m)

/-- `MOV.B @(R0,Rm),Rn` (R477). -/
def execMovBLoadIdx (m n : Reg) (s : State) : Result := s.loadTo .byte (s.eaIndexed m) n

/-- `MOV.W @(R0,Rm),Rn` (R478). -/
def execMovWLoadIdx (m n : Reg) (s : State) : Result := s.loadTo .word (s.eaIndexed m) n

/-- `MOV.L @(R0,Rm),Rn` (R479). -/
def execMovLLoadIdx (m n : Reg) (s : State) : Result := s.loadTo .long (s.eaIndexed m) n

/-- `MOV.B R0,@(disp,GBR)` (R480). -/
def execMovBStoreGbr (d : BitVec 8) (s : State) : Result :=
  s.storeTo .byte (s.eaGbr .byte d) (s.r 0)

/-- `MOV.W R0,@(disp,GBR)` (R481). -/
def execMovWStoreGbr (d : BitVec 8) (s : State) : Result :=
  s.storeTo .word (s.eaGbr .word d) (s.r 0)

/-- `MOV.L R0,@(disp,GBR)` (R482). -/
def execMovLStoreGbr (d : BitVec 8) (s : State) : Result :=
  s.storeTo .long (s.eaGbr .long d) (s.r 0)

/-- `MOV.B @(disp,GBR),R0` (R483). -/
def execMovBLoadGbr (d : BitVec 8) (s : State) : Result := s.loadTo .byte (s.eaGbr .byte d) 0

/-- `MOV.W @(disp,GBR),R0` (R484). -/
def execMovWLoadGbr (d : BitVec 8) (s : State) : Result := s.loadTo .word (s.eaGbr .word d) 0

/-- `MOV.L @(disp,GBR),R0` (R485). -/
def execMovLLoadGbr (d : BitVec 8) (s : State) : Result := s.loadTo .long (s.eaGbr .long d) 0

/-- `MOVA @(disp,PC),R0` (R486). No memory access. -/
def execMova (d : BitVec 8) (s : State) : Result := (s.setR 0 (s.eaPcLong d)).done

/-- `MOVT Rn` (R487). -/
def execMovt (n : Reg) (s : State) : Result := (s.setR n (if s.t then 1 else 0)).done

/-- `SWAP.B Rm,Rn` (R488). -/
def execSwapB (m n : Reg) (s : State) : Result :=
  (s.setR n ((s.r m).extractLsb' 16 16 ++ byteOf (s.r m) 0 ++ byteOf (s.r m) 1)).done

/-- `SWAP.W Rm,Rn` (R489). -/
def execSwapW (m n : Reg) (s : State) : Result :=
  (s.setR n ((s.r m).extractLsb' 0 16 ++ (s.r m).extractLsb' 16 16)).done

/-- `XTRCT Rm,Rn` (R490). -/
def execXtrct (m n : Reg) (s : State) : Result :=
  (s.setR n ((s.r m).extractLsb' 0 16 ++ (s.r n).extractLsb' 16 16)).done

/-- `MOVCA.L R0,@Rn` (R491). A plain long store: the block has no cache. -/
def execMovcaL (n : Reg) (s : State) : Result := s.storeTo .long (s.r n) (s.r 0)

/-- `MOVLI.L @Rm,R0` (R492). Sets LDST. -/
def execMovliL (m : Reg) (s : State) : Result :=
  s.load .long (s.r m) fun v => State.done { s.setR 0 v with ldst := true }

/-- `MOVCO.L R0,@Rn` (R493). Stores, and checks its address, only if LDST is 1; T <- LDST, LDST <- 0. -/
def execMovcoL (n : Reg) (s : State) : Result :=
  if s.ldst then
    s.store .long (s.r n) (s.r 0) fun s' => State.done { s'.setT true with ldst := false }
  else State.done { s.setT false with ldst := false }

/-- `MOVUA.L @Rm,R0` (R494). Any address. -/
def execMovuaL (m : Reg) (s : State) : Result :=
  s.readUnaligned (s.r m) fun v => (s.setR 0 v).done

/-- `MOVUA.L @Rm+,R0` (R495). Any address; with m = 0 the loaded value wins. -/
def execMovuaLPost (m : Reg) (s : State) : Result :=
  s.readUnaligned (s.r m) fun v =>
    ((if m = 0 then s else s.setR m (s.r m + 4)).setR 0 v).done

end Sys2Proof.Machine
end

