-- ==== Sys2Proof/Machine/MulAcc.lean ====
section
/-! DEFINITION. Multiply and multiply-accumulate (spec 43_multiply_accumulate.md). -/

namespace Sys2Proof.Machine

/-- `MAC <- v`, then `next`. -/
def State.macDone (s : State) (v : BitVec 64) : Result := State.done { s with mac := v }

/-- The pointers after MAC.L or MAC.W: each gains the width, and m = n gains it twice (R377, R378). -/
def State.macPointers (s : State) (w : Width) (m n : Reg) : State :=
  if m = n then s.setR n (s.r n + Width.size w + Width.size w)
  else (s.setR n (s.r n + Width.size w)).setR m (s.r m + Width.size w)

/-- `@Rm+,@Rn+`: the operand at R[n] read first, the one at R[m] second, or at R[n] + width when m = n
(R377, R378); their values given to `k`. -/
def State.macOperands (s : State) (w : Width) (m n : Reg) (k : Word → Word → Result) : Result :=
  s.load w (s.r n) fun vn =>
    s.load w (if m = n then s.r n + Width.size w else s.r m) fun vm => k vn vm

/-- `DMULS.L Rm,Rn` (R372). S is ignored. -/
def execDmulsL (m n : Reg) (s : State) : Result :=
  s.macDone (BitVec.ofInt 64 ((s.r n).toInt * (s.r m).toInt))

/-- `DMULU.L Rm,Rn` (R373). S is ignored. -/
def execDmuluL (m n : Reg) (s : State) : Result :=
  s.macDone (BitVec.ofNat 64 ((s.r n).toNat * (s.r m).toNat))

/-- `MUL.L Rm,Rn` (R374). MACH is unchanged. -/
def execMulL (m n : Reg) (s : State) : Result := (s.setMacl (s.r n * s.r m)).done

/-- `MULS.W Rm,Rn` (R375). MACH is unchanged. -/
def execMulsW (m n : Reg) (s : State) : Result :=
  (s.setMacl (BitVec.ofInt 32 (((s.r n).setWidth 16).toInt * ((s.r m).setWidth 16).toInt))).done

/-- `MULU.W Rm,Rn` (R376). MACH is unchanged. -/
def execMuluW (m n : Reg) (s : State) : Result :=
  (s.setMacl (BitVec.ofNat 32 (((s.r n).setWidth 16).toNat * ((s.r m).setWidth 16).toNat))).done

/-- `MAC.L @Rm+,@Rn+` (R377). Reads S. -/
def execMacL (m n : Reg) (s : State) : Result :=
  s.macOperands .long m n fun vn vm =>
    (s.macPointers .long m n).macDone (macLResult s.mac (vn.toInt * vm.toInt) s.s)

/-- `MAC.W @Rm+,@Rn+` (R378). Reads S. -/
def execMacW (m n : Reg) (s : State) : Result :=
  s.macOperands .word m n fun vn vm =>
    (s.macPointers .word m n).macDone
      (macWResult s.params.macwSat s.mac ((vn.setWidth 16).toInt * (vm.setWidth 16).toInt) s.s)

/-- `CLRMAC` (R379). -/
def execClrmac (s : State) : Result := s.macDone 0

end Sys2Proof.Machine
end

