-- ==== Sys2Proof/Machine/Shift.lean ====
section
/-! DEFINITION. Shift and rotate (spec 41_shift_rotate.md). -/

namespace Sys2Proof.Machine

/-- A one-bit shift or rotate: R[n] <- `v`, T <- the bit shifted out (R300). -/
def State.shiftOut (s : State) (n : Reg) (v : Word) (out : Bool) : Result := ((s.setR n v).setT out).done

/-- A bit as a word, 0 or 1. -/
def bitWord (b : Bool) : Word := if b then 1 else 0

/-- The value of SHAD (R315): `x` shifted left by the count's low five bits when the count is not
negative, arithmetically right by 32 minus them otherwise, and all sign bits when they are 0. -/
def shadValue (x count : Word) : Word :=
  let c := (count.extractLsb' 0 5).toNat
  if !count.msb then x <<< c
  else if c = 0 then (if x.msb then 0xFFFFFFFF else 0)
  else x.sshiftRight (32 - c)

/-- The value of SHLD (R316): as SHAD, zero-filling. -/
def shldValue (x count : Word) : Word :=
  let c := (count.extractLsb' 0 5).toNat
  if !count.msb then x <<< c
  else if c = 0 then 0
  else x >>> (32 - c)

/-- `SHLL Rn` (R301). -/
def execShll (n : Reg) (s : State) : Result := s.shiftOut n (s.r n <<< 1) (s.r n).msb

/-- `SHLR Rn` (R302). -/
def execShlr (n : Reg) (s : State) : Result := s.shiftOut n (s.r n >>> 1) ((s.r n).getLsbD 0)

/-- `SHAL Rn` (R303). As SHLL: no overflow is detected. -/
def execShal (n : Reg) (s : State) : Result := s.shiftOut n (s.r n <<< 1) (s.r n).msb

/-- `SHAR Rn` (R304). Bit 31 is kept. -/
def execShar (n : Reg) (s : State) : Result :=
  s.shiftOut n ((s.r n).sshiftRight 1) ((s.r n).getLsbD 0)

/-- `SHLL2 Rn` (R305). -/
def execShll2 (n : Reg) (s : State) : Result := (s.setR n (s.r n <<< 2)).done

/-- `SHLR2 Rn` (R306). -/
def execShlr2 (n : Reg) (s : State) : Result := (s.setR n (s.r n >>> 2)).done

/-- `SHLL8 Rn` (R307). -/
def execShll8 (n : Reg) (s : State) : Result := (s.setR n (s.r n <<< 8)).done

/-- `SHLR8 Rn` (R308). -/
def execShlr8 (n : Reg) (s : State) : Result := (s.setR n (s.r n >>> 8)).done

/-- `SHLL16 Rn` (R309). -/
def execShll16 (n : Reg) (s : State) : Result := (s.setR n (s.r n <<< 16)).done

/-- `SHLR16 Rn` (R310). -/
def execShlr16 (n : Reg) (s : State) : Result := (s.setR n (s.r n >>> 16)).done

/-- `ROTL Rn` (R311). -/
def execRotl (n : Reg) (s : State) : Result :=
  s.shiftOut n ((s.r n <<< 1) ||| bitWord (s.r n).msb) (s.r n).msb

/-- `ROTR Rn` (R312). -/
def execRotr (n : Reg) (s : State) : Result :=
  s.shiftOut n ((s.r n >>> 1) ||| (bitWord ((s.r n).getLsbD 0) <<< 31)) ((s.r n).getLsbD 0)

/-- `ROTCL Rn` (R313). The old T enters bit 0. -/
def execRotcl (n : Reg) (s : State) : Result :=
  s.shiftOut n ((s.r n <<< 1) ||| bitWord s.t) (s.r n).msb

/-- `ROTCR Rn` (R314). The old T enters bit 31. -/
def execRotcr (n : Reg) (s : State) : Result :=
  s.shiftOut n ((s.r n >>> 1) ||| (bitWord s.t <<< 31)) ((s.r n).getLsbD 0)

/-- `SHAD Rm,Rn` (R315). -/
def execShad (m n : Reg) (s : State) : Result := (s.setR n (shadValue (s.r n) (s.r m))).done

/-- `SHLD Rm,Rn` (R316). -/
def execShld (m n : Reg) (s : State) : Result := (s.setR n (shldValue (s.r n) (s.r m))).done

end Sys2Proof.Machine
end

