-- ==== Sys2Proof/Machine/System.lean ====
section
/-! DEFINITION. Flag, cache, TLB, trap, synchronisation and sleep instructions (spec 47_system.md). -/

namespace Sys2Proof.Machine

/-- The 32-byte line of an address (R577). -/
def lineBase (a : Word) : Word := a &&& 0xFFFFFFE0

/-- The memory after an OCBI draws the byte at each of the `k` addresses from `base` on, in rising order,
each written through the port `p` (R577). -/
def havocBytes (p : Params) (draw : Nat) (base : Word) : Nat → Memory → Memory
  | 0, mem => mem
  | k + 1, mem =>
    let a := base + BitVec.ofNat 32 k
    portWrite p (havocBytes p draw base k mem) a (Config.drawByte draw a)

/-- `CLRT` (R570). -/
def execClrt (s : State) : Result := (s.setT false).done

/-- `SETT` (R571). -/
def execSett (s : State) : Result := (s.setT true).done

/-- `CLRS` (R572). -/
def execClrs (s : State) : Result := (s.setS false).done

/-- `SETS` (R573). -/
def execSets (s : State) : Result := (s.setS true).done

/-- `ICBI @Rn` (R574). A no-op that does not read its operand: the block has no instruction cache. -/
def execIcbi (_n : Reg) (s : State) : Result := s.done

/-- `PREF @Rn` (R575). A no-op at every address. -/
def execPref (_n : Reg) (s : State) : Result := s.done

/-- `PREFI @Rn` (R576). A no-op. -/
def execPrefi (_n : Reg) (s : State) : Result := s.done

/-- `OCBI @Rn` (R577). OCBI_MODEL: the 32 bytes of the line become free values, or nothing happens. -/
def execOcbi (n : Reg) (s : State) : Result :=
  match s.params.ocbiModel with
  | .noop => s.done
  | .havoc =>
    s.answered .write (lineBase (s.r n)) 32
      (State.done { s with
        mem := havocBytes s.params s.draws (lineBase (s.r n)) 32 s.mem, draws := s.draws + 1 })

/-- `OCBP @Rn` (R578). A no-op: memory is already current. -/
def execOcbp (_n : Reg) (s : State) : Result := s.done

/-- `OCBWB @Rn` (R579). A no-op: memory is already current. -/
def execOcbwb (_n : Reg) (s : State) : Result := s.done

/-- `LDTLB` (R580). No effect but the PC advance; privileged (R584). -/
def execLdtlb (s : State) : Result := s.privileged s.done

/-- `NOP` (R581). -/
def execNop (s : State) : Result := s.done

/-- `TRAPA #imm` (R582). Takes the trap exception (60 R620, R622). -/
def execTrapa (i : BitVec 8) (s : State) : Result := takeException (.trap i) s

/-- `SYNCO` (R583). A no-op: every access is already complete. -/
def execSynco (s : State) : Result := s.done

/-- `SLEEP` (R586). PC <- PC + 2, Sleeping <- 1; privileged (R584). -/
def execSleep (s : State) : Result := s.privileged (State.done { s with sleeping := true })

end Sys2Proof.Machine
end

