-- ==== Sys2Proof/Machine/Dispatch.lean ====
section
/-! DEFINITION. `exec`: one arm per instruction, each one direct call of its meaning. -/

namespace Sys2Proof.Machine

def exec (i : Instr) (s : State) : Host.Outcome State Fault Refusal :=
  match i with
  -- Arithmetic, logic and compare (spec 40)
  | .add m n => Sys2Proof.Machine.execAdd m n s
  | .addImm imm n => Sys2Proof.Machine.execAddImm imm n s
  | .addc m n => Sys2Proof.Machine.execAddc m n s
  | .addv m n => Sys2Proof.Machine.execAddv m n s
  | .sub m n => Sys2Proof.Machine.execSub m n s
  | .subc m n => Sys2Proof.Machine.execSubc m n s
  | .subv m n => Sys2Proof.Machine.execSubv m n s
  | .neg m n => Sys2Proof.Machine.execNeg m n s
  | .negc m n => Sys2Proof.Machine.execNegc m n s
  | .dt n => Sys2Proof.Machine.execDt n s
  | .extsB m n => Sys2Proof.Machine.execExtsB m n s
  | .extsW m n => Sys2Proof.Machine.execExtsW m n s
  | .extuB m n => Sys2Proof.Machine.execExtuB m n s
  | .extuW m n => Sys2Proof.Machine.execExtuW m n s
  | .cmpEq m n => Sys2Proof.Machine.execCmpEq m n s
  | .cmpEqImm imm => Sys2Proof.Machine.execCmpEqImm imm s
  | .cmpHs m n => Sys2Proof.Machine.execCmpHs m n s
  | .cmpGe m n => Sys2Proof.Machine.execCmpGe m n s
  | .cmpHi m n => Sys2Proof.Machine.execCmpHi m n s
  | .cmpGt m n => Sys2Proof.Machine.execCmpGt m n s
  | .cmpPz n => Sys2Proof.Machine.execCmpPz n s
  | .cmpPl n => Sys2Proof.Machine.execCmpPl n s
  | .cmpStr m n => Sys2Proof.Machine.execCmpStr m n s
  | .andReg m n => Sys2Proof.Machine.execAndReg m n s
  | .andImm imm => Sys2Proof.Machine.execAndImm imm s
  | .andB imm => Sys2Proof.Machine.execAndB imm s
  | .orReg m n => Sys2Proof.Machine.execOrReg m n s
  | .orImm imm => Sys2Proof.Machine.execOrImm imm s
  | .orB imm => Sys2Proof.Machine.execOrB imm s
  | .xorReg m n => Sys2Proof.Machine.execXorReg m n s
  | .xorImm imm => Sys2Proof.Machine.execXorImm imm s
  | .xorB imm => Sys2Proof.Machine.execXorB imm s
  | .notReg m n => Sys2Proof.Machine.execNotReg m n s
  | .tst m n => Sys2Proof.Machine.execTst m n s
  | .tstImm imm => Sys2Proof.Machine.execTstImm imm s
  | .tasB n => Sys2Proof.Machine.execTasB n s
  | .tstB imm => Sys2Proof.Machine.execTstB imm s
  -- Shift and rotate (spec 41)
  | .shll n => Sys2Proof.Machine.execShll n s
  | .shlr n => Sys2Proof.Machine.execShlr n s
  | .shal n => Sys2Proof.Machine.execShal n s
  | .shar n => Sys2Proof.Machine.execShar n s
  | .shll2 n => Sys2Proof.Machine.execShll2 n s
  | .shlr2 n => Sys2Proof.Machine.execShlr2 n s
  | .shll8 n => Sys2Proof.Machine.execShll8 n s
  | .shlr8 n => Sys2Proof.Machine.execShlr8 n s
  | .shll16 n => Sys2Proof.Machine.execShll16 n s
  | .shlr16 n => Sys2Proof.Machine.execShlr16 n s
  | .rotl n => Sys2Proof.Machine.execRotl n s
  | .rotr n => Sys2Proof.Machine.execRotr n s
  | .rotcl n => Sys2Proof.Machine.execRotcl n s
  | .rotcr n => Sys2Proof.Machine.execRotcr n s
  | .shad m n => Sys2Proof.Machine.execShad m n s
  | .shld m n => Sys2Proof.Machine.execShld m n s
  -- Division step (spec 42)
  | .div0u => Sys2Proof.Machine.execDiv0u s
  | .div0s m n => Sys2Proof.Machine.execDiv0s m n s
  | .div1 m n => Sys2Proof.Machine.execDiv1 m n s
  -- Multiply and accumulate (spec 43)
  | .dmulsL m n => Sys2Proof.Machine.execDmulsL m n s
  | .dmuluL m n => Sys2Proof.Machine.execDmuluL m n s
  | .mulL m n => Sys2Proof.Machine.execMulL m n s
  | .mulsW m n => Sys2Proof.Machine.execMulsW m n s
  | .muluW m n => Sys2Proof.Machine.execMuluW m n s
  | .macL m n => Sys2Proof.Machine.execMacL m n s
  | .macW m n => Sys2Proof.Machine.execMacW m n s
  | .clrmac => Sys2Proof.Machine.execClrmac s
  -- Branches (spec 44)
  | .bf d => Sys2Proof.Machine.execBf d s
  | .bt d => Sys2Proof.Machine.execBt d s
  | .bfS d => Sys2Proof.Machine.execBfS d s
  | .btS d => Sys2Proof.Machine.execBtS d s
  | .bra d => Sys2Proof.Machine.execBra d s
  | .braf n => Sys2Proof.Machine.execBraf n s
  | .bsr d => Sys2Proof.Machine.execBsr d s
  | .bsrf n => Sys2Proof.Machine.execBsrf n s
  | .jmp n => Sys2Proof.Machine.execJmp n s
  | .jsr n => Sys2Proof.Machine.execJsr n s
  | .rts => Sys2Proof.Machine.execRts s
  | .rte => Sys2Proof.Machine.execRte s
  -- Loads, stores and data movement (spec 45)
  | .movReg m n => Sys2Proof.Machine.execMovReg m n s
  | .movImm imm n => Sys2Proof.Machine.execMovImm imm n s
  | .movWPc d n => Sys2Proof.Machine.execMovWPc d n s
  | .movLPc d n => Sys2Proof.Machine.execMovLPc d n s
  | .movBStore m n => Sys2Proof.Machine.execMovBStore m n s
  | .movWStore m n => Sys2Proof.Machine.execMovWStore m n s
  | .movLStore m n => Sys2Proof.Machine.execMovLStore m n s
  | .movBLoad m n => Sys2Proof.Machine.execMovBLoad m n s
  | .movWLoad m n => Sys2Proof.Machine.execMovWLoad m n s
  | .movLLoad m n => Sys2Proof.Machine.execMovLLoad m n s
  | .movBStorePre m n => Sys2Proof.Machine.execMovBStorePre m n s
  | .movWStorePre m n => Sys2Proof.Machine.execMovWStorePre m n s
  | .movLStorePre m n => Sys2Proof.Machine.execMovLStorePre m n s
  | .movBLoadPost m n => Sys2Proof.Machine.execMovBLoadPost m n s
  | .movWLoadPost m n => Sys2Proof.Machine.execMovWLoadPost m n s
  | .movLLoadPost m n => Sys2Proof.Machine.execMovLLoadPost m n s
  | .movBStoreDisp d n => Sys2Proof.Machine.execMovBStoreDisp d n s
  | .movWStoreDisp d n => Sys2Proof.Machine.execMovWStoreDisp d n s
  | .movLStoreDisp m d n => Sys2Proof.Machine.execMovLStoreDisp m d n s
  | .movBLoadDisp d m => Sys2Proof.Machine.execMovBLoadDisp d m s
  | .movWLoadDisp d m => Sys2Proof.Machine.execMovWLoadDisp d m s
  | .movLLoadDisp d m n => Sys2Proof.Machine.execMovLLoadDisp d m n s
  | .movBStoreIdx m n => Sys2Proof.Machine.execMovBStoreIdx m n s
  | .movWStoreIdx m n => Sys2Proof.Machine.execMovWStoreIdx m n s
  | .movLStoreIdx m n => Sys2Proof.Machine.execMovLStoreIdx m n s
  | .movBLoadIdx m n => Sys2Proof.Machine.execMovBLoadIdx m n s
  | .movWLoadIdx m n => Sys2Proof.Machine.execMovWLoadIdx m n s
  | .movLLoadIdx m n => Sys2Proof.Machine.execMovLLoadIdx m n s
  | .movBStoreGbr d => Sys2Proof.Machine.execMovBStoreGbr d s
  | .movWStoreGbr d => Sys2Proof.Machine.execMovWStoreGbr d s
  | .movLStoreGbr d => Sys2Proof.Machine.execMovLStoreGbr d s
  | .movBLoadGbr d => Sys2Proof.Machine.execMovBLoadGbr d s
  | .movWLoadGbr d => Sys2Proof.Machine.execMovWLoadGbr d s
  | .movLLoadGbr d => Sys2Proof.Machine.execMovLLoadGbr d s
  | .mova d => Sys2Proof.Machine.execMova d s
  | .movt n => Sys2Proof.Machine.execMovt n s
  | .swapB m n => Sys2Proof.Machine.execSwapB m n s
  | .swapW m n => Sys2Proof.Machine.execSwapW m n s
  | .xtrct m n => Sys2Proof.Machine.execXtrct m n s
  | .movcaL n => Sys2Proof.Machine.execMovcaL n s
  | .movliL m => Sys2Proof.Machine.execMovliL m s
  | .movcoL n => Sys2Proof.Machine.execMovcoL n s
  | .movuaL m => Sys2Proof.Machine.execMovuaL m s
  | .movuaLPost m => Sys2Proof.Machine.execMovuaLPost m s
  -- Control and system register transfer (spec 46)
  | .ldcSr m => Sys2Proof.Machine.execLdcSr m s
  | .ldcGbr m => Sys2Proof.Machine.execLdcGbr m s
  | .ldcVbr m => Sys2Proof.Machine.execLdcVbr m s
  | .ldcSgr m => Sys2Proof.Machine.execLdcSgr m s
  | .ldcSsr m => Sys2Proof.Machine.execLdcSsr m s
  | .ldcSpc m => Sys2Proof.Machine.execLdcSpc m s
  | .ldcDbr m => Sys2Proof.Machine.execLdcDbr m s
  | .ldcBank m b => Sys2Proof.Machine.execLdcBank m b s
  | .ldcLSr m => Sys2Proof.Machine.execLdcLSr m s
  | .ldcLGbr m => Sys2Proof.Machine.execLdcLGbr m s
  | .ldcLVbr m => Sys2Proof.Machine.execLdcLVbr m s
  | .ldcLSgr m => Sys2Proof.Machine.execLdcLSgr m s
  | .ldcLSsr m => Sys2Proof.Machine.execLdcLSsr m s
  | .ldcLSpc m => Sys2Proof.Machine.execLdcLSpc m s
  | .ldcLDbr m => Sys2Proof.Machine.execLdcLDbr m s
  | .ldcLBank m b => Sys2Proof.Machine.execLdcLBank m b s
  | .ldsMach m => Sys2Proof.Machine.execLdsMach m s
  | .ldsMacl m => Sys2Proof.Machine.execLdsMacl m s
  | .ldsPr m => Sys2Proof.Machine.execLdsPr m s
  | .ldsLMach m => Sys2Proof.Machine.execLdsLMach m s
  | .ldsLMacl m => Sys2Proof.Machine.execLdsLMacl m s
  | .ldsLPr m => Sys2Proof.Machine.execLdsLPr m s
  | .stcSr n => Sys2Proof.Machine.execStcSr n s
  | .stcGbr n => Sys2Proof.Machine.execStcGbr n s
  | .stcVbr n => Sys2Proof.Machine.execStcVbr n s
  | .stcSgr n => Sys2Proof.Machine.execStcSgr n s
  | .stcSsr n => Sys2Proof.Machine.execStcSsr n s
  | .stcSpc n => Sys2Proof.Machine.execStcSpc n s
  | .stcDbr n => Sys2Proof.Machine.execStcDbr n s
  | .stcBank b n => Sys2Proof.Machine.execStcBank b n s
  | .stcLSr n => Sys2Proof.Machine.execStcLSr n s
  | .stcLGbr n => Sys2Proof.Machine.execStcLGbr n s
  | .stcLVbr n => Sys2Proof.Machine.execStcLVbr n s
  | .stcLSgr n => Sys2Proof.Machine.execStcLSgr n s
  | .stcLSsr n => Sys2Proof.Machine.execStcLSsr n s
  | .stcLSpc n => Sys2Proof.Machine.execStcLSpc n s
  | .stcLDbr n => Sys2Proof.Machine.execStcLDbr n s
  | .stcLBank b n => Sys2Proof.Machine.execStcLBank b n s
  | .stsMach n => Sys2Proof.Machine.execStsMach n s
  | .stsMacl n => Sys2Proof.Machine.execStsMacl n s
  | .stsPr n => Sys2Proof.Machine.execStsPr n s
  | .stsLMach n => Sys2Proof.Machine.execStsLMach n s
  | .stsLMacl n => Sys2Proof.Machine.execStsLMacl n s
  | .stsLPr n => Sys2Proof.Machine.execStsLPr n s
  -- Flags, cache, TLB, trap, synchronisation, sleep (spec 47)
  | .clrt => Sys2Proof.Machine.execClrt s
  | .sett => Sys2Proof.Machine.execSett s
  | .clrs => Sys2Proof.Machine.execClrs s
  | .sets => Sys2Proof.Machine.execSets s
  | .icbi n => Sys2Proof.Machine.execIcbi n s
  | .pref n => Sys2Proof.Machine.execPref n s
  | .prefi n => Sys2Proof.Machine.execPrefi n s
  | .ocbi n => Sys2Proof.Machine.execOcbi n s
  | .ocbp n => Sys2Proof.Machine.execOcbp n s
  | .ocbwb n => Sys2Proof.Machine.execOcbwb n s
  | .ldtlb => Sys2Proof.Machine.execLdtlb s
  | .nop => Sys2Proof.Machine.execNop s
  | .trapa imm => Sys2Proof.Machine.execTrapa imm s
  | .synco => Sys2Proof.Machine.execSynco s
  | .sleep => Sys2Proof.Machine.execSleep s
  -- FPU words: decoded, then refused (spec 30 R128)
  | .fpuGroup op => Sys2Proof.Machine.execFpuGroup op s
  | .ldsFpul m => Sys2Proof.Machine.execLdsFpul m s
  | .ldsFpscr m => Sys2Proof.Machine.execLdsFpscr m s
  | .ldsLFpul m => Sys2Proof.Machine.execLdsLFpul m s
  | .ldsLFpscr m => Sys2Proof.Machine.execLdsLFpscr m s
  | .stsFpul n => Sys2Proof.Machine.execStsFpul n s
  | .stsFpscr n => Sys2Proof.Machine.execStsFpscr n s
  | .stsLFpul n => Sys2Proof.Machine.execStsLFpul n s
  | .stsLFpscr n => Sys2Proof.Machine.execStsLFpscr n s

end Sys2Proof.Machine
end

