-- ==== Sys2Proof/Machine/Controller.lean ====
section
/-! DEFINITION. The delay-slot controller (spec 44_branch_delay_slot.md R401 to R406) and one step of the
engine (00_scope.md R19). -/

namespace Sys2Proof.Machine

/-- The instruction is in `SlotIllegalSet` (44 R403; the undefined words, which are no instruction, are
handled where the slot word is decoded). -/
def slotIllegal (i : Instr) : Bool :=
  match i with
  | .bf _ | .bt _ | .bfS _ | .btS _ | .bra _ | .braf _ | .bsr _ | .bsrf _ | .jmp _ | .jsr _ | .rts | .rte => true
  | .trapa _ | .ldcSr _ | .ldcLSr _ | .sleep => true
  | _ => false

/-- The PC-relative instructions: MOVA, MOV.W @(disp,PC),Rn, MOV.L @(disp,PC),Rn (44 R404). -/
def pcRelative (i : Instr) : Bool :=
  match i with
  | .mova _ | .movWPc _ _ | .movLPc _ _ => true
  | _ => false

/-- The slot instruction has been decoded: the controller's checks, then its execution at its own
address (R403, R404, R406). It ends in `next`, and the target is installed, or in an exception, and the
pair has been undone (R405), or in a fault or a refusal. -/
def runSlotInstr (i : Instr) (s : State) : Result :=
  if slotIllegal i then .fault .slotIllegal
  else if pcRelative i ∧ s.params.slotPcRel = .fault then .fault .slotPcRelative
  else
    match exec i { s with pc := s.pc + 2 } with
    | .next s' =>
      match s'.ds with
      | .pending target _ => .next { s' with pc := target, ds := .normal }
      | .normal => .next s'
    | .fault r => .fault r
    | .refused r => .refused r

/-- The word fetched for a slot: decoded and run. An undefined word is in SlotIllegalSet (R403). -/
def runSlotWord (w : Half) (s : State) : Result :=
  match decode w with
  | .error .undefinedWord => .fault .slotIllegal
  | .ok i => runSlotInstr i s

/-- DelaySlotPending (R401): fetch the word after the branch, and run it. `s` is the state after the branch,
its PC still the branch's. -/
def runSlot (s : State) : Result := s.fetch (s.pc + 2) fun w => runSlotWord w s

/-- The engine executes a decoded instruction: a delayed branch and its slot are one step (00 R19, 44
R401, R402). -/
def runInstr (i : Instr) (s : State) : Result :=
  match exec i s with
  | .next s' =>
    match s'.ds with
    | .normal => .next s'
    | .pending _ _ => runSlot s'
  | .fault r => .fault r
  | .refused r => .refused r

/-- The engine executes a fetched word: an undefined one raises GeneralIllegalInstruction (30 R129). -/
def runWord (w : Half) (s : State) : Result :=
  match decode w with
  | .error .undefinedWord => takeException .generalIllegalInstruction s
  | .ok i => runInstr i s

/-- The state a step of the engine executes from: the report of the last step is cleared (log 12), and the
step is counted (log 21). -/
def State.fresh (s : State) : State := { s with report := none, ticks := s.ticks + 1 }

/-- The outcome a mark stands for (10 R50). -/
def Mark.outcome : Mark → Result
  | .faulted r => .fault r
  | .refused r => .refused r

/-- One step of the engine (00 R19). A marked engine has no step (10 R50; log 20). While Sleeping = 1 "the
engine takes no step and its state does not change" (47 R586; log 9). No step is defined in
DelaySlotPending (10 R49; log 15). -/
def engineStep (s : State) : Result :=
  match s.mark with
  | some m => m.outcome
  | none =>
    match s.ds with
    | .pending _ _ => .fault .slotPending
    | .normal =>
      if s.sleeping then .next s else s.fresh.fetch s.pc fun w => runWord w s.fresh

end Sys2Proof.Machine
end

