-- ==== Sys2Proof/Machine/Events.lean ====
section
/-! DEFINITION. What the platform, the exception collaborator and the debugger do between engine steps
(spec 60_exceptions.md R626, R627; 70_reset_and_hazards.md R681; 00_scope.md R9). -/

namespace Sys2Proof.Machine

/-- The INTEVT code of an accepted interrupt: the platform's code, or 0x1C0 for NMI (60 R620, R626;
log 11). -/
def Interrupt.code : Interrupt → Word
  | .nmi => 0x1C0
  | .level _ c => c

/-- The collaborator may accept the offer: BL = 0, and NMI or a level above IMASK (R626). Level 0 is never
above IMASK. A marked engine accepts none (log 20). -/
def State.accepts (s : State) (offer : Interrupt) : Bool :=
  s.mark.isNone && !s.bl && match offer with
    | .nmi => true
    | .level l _ => decide (s.imask.toNat < l.toNat)

/-- An accepted interrupt: the shared entry with SPC = PC, INTEVT the code, offset 0x600, Sleeping cleared
(R626, R627). -/
def State.enterInterrupt (s : State) (offer : Interrupt) : State :=
  { s.enterVector s.pc interruptOffset with intevt := offer.code, sleeping := false }

/-- An interrupt is offered: accepted, or nothing happens (R626, R627). -/
def State.offerInterrupt (s : State) (offer : Interrupt) : State :=
  if s.accepts offer then s.enterInterrupt offer else s

/-- A reset of the platform: every engine register at its reset value, any mark cleared, the collaborator's registers,
memory and the model's own fields unchanged (70 R680, R681; log 19). -/
def State.externalReset (s : State) : State :=
  { State.resetWith s.params with
    expevt := s.expevt
    intevt := s.intevt
    tra := s.tra
    tea := s.tea
    mem := s.mem
    events := s.events
    draws := s.draws
    ticks := s.ticks }

/-- A debugger write: "it may write any state a reset could hold" (92 D46), so SR is masked. It may put the
engine to sleep, as restoring a saved state needs, and does not wake it (47 R586; log 16). -/
def State.debugWrite (s : State) (target : DebugTarget) (v : Word) : State :=
  match target with
  | .r i => s.setR i v
  | .rBank b => s.setRBank b v
  | .sr => s.setSr v
  | .gbr => { s with gbr := v }
  | .vbr => { s with vbr := v }
  | .sgr => { s with sgr := v }
  | .ssr => { s with ssr := v }
  | .spc => { s with spc := v }
  | .dbr => { s with dbr := v }
  | .pr => { s with pr := v }
  | .mach => s.setMach v
  | .macl => s.setMacl v
  | .pc => { s with pc := v }
  | .ldst => { s with ldst := v.getLsbD 0 }
  | .sleeping => { s with sleeping := s.sleeping || v.getLsbD 0 }
  | .memory a => s.setByte a (v.setWidth 8)

/-- A step of the engine that the platform has scheduled, with the state a fault or a refusal leaves: the
state before, marked (10 R50; 60 R625; 70 R681). -/
def scheduledStep (s : State) : State :=
  match engineStep s with
  | .next u => u
  | .fault r => { s with mark := some (.faulted r) }
  | .refused r => { s with mark := some (.refused r) }

/-- One event. Only between engine steps: DS pending never stands there (44 R402). -/
def runEvent (e : Event) (s : State) : Result :=
  match e with
  | .engine => .next (scheduledStep s)
  | .reset => .next s.externalReset
  | .interrupt offer => .next (s.offerInterrupt offer)
  | .debugWrite target v => .next (s.debugWrite target v)

/-- One transition: the platform's next event, or, when it has none coming, a step of the engine, whose fault
or refusal then ends the run (10 R50; log 20). -/
def transition (s : State) : Result :=
  match s.events with
  | [] => engineStep s
  | e :: rest => runEvent e { s with events := rest }

/-- The decoded instruction is a delayed branch (44 R400): its step fetches a slot word as well. -/
def delayedBranch (i : Instr) : Bool :=
  match i with
  | .bfS _ | .btS _ | .bra _ | .braf _ | .bsr _ | .bsrf _ | .jmp _ | .jsr _ | .rts | .rte => true
  | _ => false

/-- A program word loaded at `a` from outside the machine: into the storage behind the port, ROM included. -/
def State.loadWord (s : State) (a : Word) (w : Half) : State :=
  { s with mem := (State.memWrite { s with params := { s.params with port := [] } } .word a (w.setWidth 32)).mem }

/-- A program word placed where the next engine step fetches it (log 17): in memory at PC, with no event
before the engine's step, the engine awake and unmarked and DS Normal. The step of a delayed branch fetches
its slot too, so a NOP is placed there. -/
def State.placeWord (s : State) (w : Half) : State :=
  let ready : State := { s with events := [], sleeping := false, ds := .normal, mark := none }
  let one := ready.loadWord s.pc w
  match decode w with
  | .ok i => if delayedBranch i then one.loadWord (s.pc + 2) (encode .nop) else one
  | .error _ => one

end Sys2Proof.Machine
end

