-- ==== Sys2Proof/Machine/Step.lean ====
section
/-! DEFINITION. `step`, and a word placed where it fetches next. Both only call Controller and Events. -/

namespace Sys2Proof.Machine

/-- One step of the machine: the platform's next event or a step of the engine (00_scope.md R19). -/
def step (s : State) : Host.Outcome State Fault Refusal := transition s

/-- `s` with the low `nbits` bits of `w` (the rest of the word zero) stored where `step` fetches its next
instruction (log 17). -/
def State.withFetchWord (s : State) (nbits w : Nat) : State :=
  s.placeWord (BitVec.ofNat 16 (w % 2 ^ nbits))

end Sys2Proof.Machine
end

