-- ==== Sys2Proof/Machine/Run.lean ====
section
/-! DEFINITION. A run of the machine and how it ends (spec 70_reset_and_hazards.md R687). -/

namespace Sys2Proof.Machine

/-- How a run ends (R687), with the state it ends in. `final`: asleep with no interrupt pending.
`marked`: a fault or a refusal, its mark set; never final. `stopped`: PC is at the stop address.
`bounded`: the step bound is reached. -/
inductive RunEnd where
  | final (s : State)
  | marked (s : State)
  | stopped (s : State)
  | bounded (s : State)
deriving DecidableEq, Repr

/-- The platform has an interrupt to offer (60 R626; log 10). -/
def State.interruptPending (s : State) : Bool :=
  s.events.any fun e => match e with
    | .interrupt _ => true
    | .engine | .reset | .debugWrite _ _ => false

/-- The state ends a run finally: Sleeping = 1 and no interrupt is pending (R687 a); "a state carrying" a mark
"is never final" (10 R50). -/
def State.isFinal (s : State) : Bool := s.mark.isNone && s.sleeping && !s.interruptPending

/-- The end a run has reached in `s`, if it has: by its mark, finally, or at the stop address (R687). -/
def State.runEnd (stop : Option Word) (s : State) : Option RunEnd :=
  if s.mark.isSome then some (.marked s)
  else if s.isFinal then some (.final s)
  else if stop = some s.pc then some (.stopped s)
  else none

/-- A run from `s` of at most `bound` steps, with or without a stop address (R687). A step that faults or is
refused ends it in the state before the step, marked (10 R50). -/
def run (stop : Option Word) : Nat → State → RunEnd
  | 0, s => (s.runEnd stop).getD (.bounded s)
  | bound + 1, s =>
    match s.runEnd stop with
    | some e => e
    | none =>
      match step s with
      | .next u => run stop bound u
      | .fault r => .marked { s with mark := some (.faulted r) }
      | .refused r => .marked { s with mark := some (.refused r) }

end Sys2Proof.Machine
end

