-- ==== Sys2Proof/Safety.lean ====
section
/-! DEFINITION. What claims are stated in: a safe state and a safe run, an instruction completing, what an
instruction leaves unchanged, when an access or a privileged instruction goes through, and the spec's own
lists of instructions (47_system.md R584, 10_state.md R36, 20_memory.md R85). -/

namespace Sys2Proof.Machine

/-! ## Safe states and safe runs -/

/-- What holds between engine steps: memory is in its canonical form, the reserved bits of SR read 0 (10
R35, R37), and DS is Normal (10 R49). -/
structure State.Inv (s : State) : Prop where
  memory : Memory.wf s.mem = true
  status : s.sr &&& ~~~srMask = 0
  slot : s.ds = .normal

/-- A safe run of at most `k` steps: it does not end in a fault or a refusal (10 R50: no mark is set). -/
def SafeRun (k : Nat) (s : State) : Prop := ∀ u, run none k s ≠ .marked u

/-! ## Completion -/

/-- Executing `i` from `s` answers a next state, and that state satisfies `post`. -/
def Completes (i : Instr) (s : State) (post : State → Prop) : Prop := ∃ u, exec i s = .next u ∧ post u

/-- The word `w` is decoded as `i` (30 R127). -/
def Encodes (w : Half) (i : Instr) : Prop := decode w = .ok i

/-! ## Frames: what stays the same from `s` to `u` -/

/-- The bit T of SR (10 R36). -/
def tBit : Word := 0x001
/-- The bit S of SR (10 R36). -/
def sBit : Word := 0x002
/-- The bit Q of SR (10 R36). -/
def qBit : Word := 0x100
/-- The bit M of SR (10 R36). -/
def mBit : Word := 0x200

/-- Every register and field but the general and bank registers, PC and memory is unchanged; of SR, every
bit outside `flags`. -/
structure SameSystem (flags : Word) (s u : State) : Prop where
  status : u.sr &&& ~~~flags = s.sr &&& ~~~flags
  gbr : u.gbr = s.gbr
  vbr : u.vbr = s.vbr
  sgr : u.sgr = s.sgr
  ssr : u.ssr = s.ssr
  spc : u.spc = s.spc
  dbr : u.dbr = s.dbr
  pr : u.pr = s.pr
  mac : u.mac = s.mac
  ldst : u.ldst = s.ldst
  sleeping : u.sleeping = s.sleeping
  ds : u.ds = s.ds
  mark : u.mark = s.mark
  expevt : u.expevt = s.expevt
  intevt : u.intevt = s.intevt
  tra : u.tra = s.tra
  tea : u.tea = s.tea
  params : u.params = s.params
  report : u.report = s.report
  events : u.events = s.events
  draws : u.draws = s.draws
  ticks : u.ticks = s.ticks

/-- Every general register but those listed is unchanged. -/
def SameRegs (but : List Reg) (s u : State) : Prop := ∀ k, k ∉ but → u.r k = s.r k

/-- Every bank register is unchanged. -/
def SameBanks (s u : State) : Prop := ∀ b, u.rBank b = s.rBank b

/-- Every byte of memory is unchanged. -/
def SameMemory (s u : State) : Prop := ∀ x : Word, u.byteAt x = s.byteAt x

/-- Every byte of memory outside the `n` bytes from `a` on is unchanged. -/
def SameMemoryBut (a : Word) (n : Nat) (s u : State) : Prop :=
  ∀ x : Word, n ≤ (x - a).toNat → u.byteAt x = s.byteAt x

/-- Outcome `Next` (00 R8) and nothing else changes but the general registers and SR bits named: every
other register, field and byte of memory is as before, and PC advances by 2. -/
structure OnlyWrites (regs : List Reg) (flags : Word) (s u : State) : Prop where
  pc : u.pc = s.pc + 2
  general : SameRegs regs s u
  banks : SameBanks s u
  system : SameSystem flags s u
  memory : SameMemory s u

/-- As `OnlyWrites`, for an instruction that also stores `w` bytes at `a`. -/
structure OnlyStores (w : Width) (a : Word) (regs : List Reg) (flags : Word) (s u : State) : Prop where
  pc : u.pc = s.pc + 2
  general : SameRegs regs s u
  banks : SameBanks s u
  system : SameSystem flags s u
  memory : SameMemoryBut a (Width.bytes w) s u

/-- As `OnlyWrites`, for an instruction that does not advance PC as `Next` does: PC becomes `pc`. -/
structure OnlyMoves (pc : Word) (s u : State) : Prop where
  pc : u.pc = pc
  general : SameRegs [] s u
  banks : SameBanks s u
  system : SameSystem 0 s u
  memory : SameMemory s u

/-! ## Accesses (20_memory.md R83, R84, R92) -/

/-- An access of width `w` at `a` goes through: aligned, and answered by the port in its direction. -/
def Accessible (s : State) (d : Direction) (w : Width) (a : Word) : Prop :=
  Width.aligned w a = true ∧ s.answers d a (Width.bytes w) = true

/-- The byte at `a` is there to be read and written: a read-modify-write goes through (20 R86). -/
def Modifiable (s : State) (a : Word) : Prop := s.answers .read a 1 = true ∧ s.answers .write a 1 = true

/-- The `n` bytes from `a` on keep what is stored: they are RAM (20 R92), and memory has its canonical form. -/
def Keeps (s : State) (a : Word) (n : Nat) : Prop := Memory.wf s.mem = true ∧ s.ram a n = true

/-- What a misaligned access ends in (20 R84): the fault, or the address error of its direction. -/
def addressError (d : Direction) (a : Word) (s : State) : Result :=
  match s.params.misaligned with
  | .fault => .fault .misalignedData
  | .exception => takeException (d.addressError a) s

/-- Executing `i` makes an access of width `w` at `a` before it writes anything: a misaligned address ends
it as R84 says, and an aligned one the port does not answer leaves it with no step (20 R92). -/
structure Guarded (d : Direction) (w : Width) (a : Word) (i : Instr) (s : State) : Prop where
  misaligned : Width.aligned w a = false → exec i s = addressError d a s
  unanswered : Width.aligned w a = true → s.answers d a (Width.bytes w) = false →
    exec i s = .fault .portNoAnswer

/-- The stored bytes at `a` read back as the low `w` bytes of `v` (20 R81, R82). -/
def Holds (u : State) (w : Width) (a v : Word) : Prop :=
  u.memRead w a =
    match w with
    | .byte => (v.setWidth 8).setWidth 32
    | .word => (v.setWidth 16).setWidth 32
    | .long => v

/-- `Load(a, w)` (45 R451): byte and word loads sign-extend, long loads do not. -/
def loadedValue (s : State) (w : Width) (a : Word) : Word :=
  match w with
  | .byte => ((s.memRead .byte a).setWidth 8).signExtend 32
  | .word => ((s.memRead .word a).setWidth 16).signExtend 32
  | .long => s.memRead .long a

/-- `i` loads R[n] from `a` (45 R451): the access is guarded, and when it goes through only R[n] is
written, with the loaded value. -/
def LoadsFrom (w : Width) (a : Word) (n : Reg) (i : Instr) (s : State) : Prop :=
  Guarded .read w a i s ∧
  (Accessible s .read w a → Completes i s fun u => u.r n = loadedValue s w a ∧ OnlyWrites [n] 0 s u)

/-- `i` stores the low `w` bytes of `v` at `a`: the access is guarded, and when it goes through the bytes
are there (in RAM) and nothing else is written. -/
def StoresAt (w : Width) (a v : Word) (i : Instr) (s : State) : Prop :=
  Guarded .write w a i s ∧
  (Accessible s .write w a → Completes i s fun u =>
    (Keeps s a (Width.bytes w) → Holds u w a v) ∧ OnlyStores w a [] 0 s u)

/-- `i` stores the low `w` bytes of `v` at R[n] minus the width, which R[n] becomes (45 R450, 46 R520). -/
def Pushes (w : Width) (n : Reg) (v : Word) (i : Instr) (s : State) : Prop :=
  let a := s.r n - BitVec.ofNat 32 (Width.bytes w)
  Guarded .write w a i s ∧
  (Accessible s .write w a → Completes i s fun u =>
    u.r n = a ∧ (Keeps s a (Width.bytes w) → Holds u w a v) ∧ OnlyStores w a [n] 0 s u)

/-- `i` reads the long at R[m] (46 R520): the access is guarded, and when it goes through the next state
satisfies `post` of the long read. -/
def Pops (m : Reg) (i : Instr) (s : State) (post : Word → State → Prop) : Prop :=
  Guarded .read .long (s.r m) i s ∧
  (Accessible s .read .long (s.r m) → Completes i s (post (s.memRead .long (s.r m))))

/-! ## Privilege (47_system.md R584, R585) -/

/-- The privileged set of R584. -/
def privilegedInstr (i : Instr) : Bool :=
  match i with
  | .ldcSr _ | .ldcVbr _ | .ldcSgr _ | .ldcSsr _ | .ldcSpc _ | .ldcDbr _ | .ldcBank _ _ => true
  | .ldcLSr _ | .ldcLVbr _ | .ldcLSgr _ | .ldcLSsr _ | .ldcLSpc _ | .ldcLDbr _ | .ldcLBank _ _ => true
  | .stcSr _ | .stcVbr _ | .stcSgr _ | .stcSsr _ | .stcSpc _ | .stcDbr _ | .stcBank _ _ => true
  | .stcLSr _ | .stcLVbr _ | .stcLSgr _ | .stcLSsr _ | .stcLSpc _ | .stcLDbr _ | .stcLBank _ _ => true
  | .rte | .sleep | .ldtlb => true
  | _ => false

/-- A privileged instruction executes normally: PRIV_CHECK = off, or MD = 1 (R584, R585). -/
def Permitted (s : State) : Prop := s.params.privCheck = .off ∨ s.md = true

/-- What user mode must not reach: the SR bits other than T, S, Q, M, the control registers of R584 and
the bank registers. -/
structure Confined (s u : State) : Prop where
  status : u.sr &&& ~~~(tBit ||| sBit ||| qBit ||| mBit) = s.sr &&& ~~~(tBit ||| sBit ||| qBit ||| mBit)
  vbr : u.vbr = s.vbr
  sgr : u.sgr = s.sgr
  ssr : u.ssr = s.ssr
  spc : u.spc = s.spc
  dbr : u.dbr = s.dbr
  banks : SameBanks s u

/-! ## The spec's lists of writers (10_state.md R36, R47; 20_memory.md R85) -/

/-- Writes a whole SR value: LDC and LDC.L to SR, RTE (10 R37). -/
def writesStatus (i : Instr) : Bool :=
  match i with
  | .ldcSr _ | .ldcLSr _ | .rte => true
  | _ => false

/-- The writers of T (R36). -/
def writesT (i : Instr) : Bool :=
  writesStatus i || match i with
  | .addc _ _ | .addv _ _ | .subc _ _ | .subv _ _ | .negc _ _ | .dt _ => true
  | .cmpEq _ _ | .cmpEqImm _ | .cmpHs _ _ | .cmpGe _ _ | .cmpHi _ _ | .cmpGt _ _ | .cmpPz _ | .cmpPl _ => true
  | .cmpStr _ _ | .tst _ _ | .tstImm _ | .tstB _ | .tasB _ => true
  | .div0u | .div0s _ _ | .div1 _ _ => true
  | .shal _ | .shar _ | .shll _ | .shlr _ | .rotl _ | .rotr _ | .rotcl _ | .rotcr _ => true
  | .clrt | .sett | .movcoL _ => true
  | _ => false

/-- The writers of S (R36). -/
def writesS (i : Instr) : Bool :=
  writesStatus i || match i with
  | .clrs | .sets => true
  | _ => false

/-- The writers of Q (R36). -/
def writesQ (i : Instr) : Bool :=
  writesStatus i || match i with
  | .div0u | .div0s _ _ | .div1 _ _ => true
  | _ => false

/-- The writers of M (R36). -/
def writesM (i : Instr) : Bool :=
  writesStatus i || match i with
  | .div0u | .div0s _ _ => true
  | _ => false

/-- The instructions with a memory write in R85's table, OCBI among them. -/
def writesMemory (i : Instr) : Bool :=
  match i with
  | .movBStore _ _ | .movWStore _ _ | .movLStore _ _ => true
  | .movBStorePre _ _ | .movWStorePre _ _ | .movLStorePre _ _ => true
  | .movBStoreDisp _ _ | .movWStoreDisp _ _ | .movLStoreDisp _ _ _ => true
  | .movBStoreIdx _ _ | .movWStoreIdx _ _ | .movLStoreIdx _ _ => true
  | .movBStoreGbr _ | .movWStoreGbr _ | .movLStoreGbr _ => true
  | .movcaL _ | .movcoL _ | .andB _ | .orB _ | .xorB _ | .tasB _ | .ocbi _ => true
  | .stcLSr _ | .stcLGbr _ | .stcLVbr _ | .stcLSgr _ | .stcLSsr _ | .stcLSpc _ | .stcLDbr _ => true
  | .stcLBank _ _ | .stsLMach _ | .stsLMacl _ | .stsLPr _ => true
  | _ => false

/-! ## Exceptions and slots -/

/-- The reference entry with saved PC `savedPc` and handler address `pc` (60 R622), the collaborator's
registers and Sleeping left open: SPC, SSR and SGR saved, MD, RB and BL set and no other SR bit changed,
LDST cleared, nothing else written. -/
structure Entered (savedPc pc : Word) (s u : State) : Prop where
  spc : u.spc = savedPc
  ssr : u.ssr = s.sr
  sgr : u.sgr = s.r 15
  md : u.md = true
  rb : u.rb = true
  bl : u.bl = true
  status : u.sr &&& ~~~0x70000000 = s.sr &&& ~~~0x70000000
  ldst : u.ldst = false
  pc : u.pc = pc
  general : SameRegs [] { s with sr := u.sr } u
  banks : SameBanks { s with sr := u.sr } u
  memory : SameMemory s u
  system : SameSystem 0 { s with
    sr := u.sr, spc := u.spc, ssr := u.ssr, sgr := u.sgr, ldst := u.ldst, sleeping := u.sleeping,
    expevt := u.expevt, intevt := u.intevt, tra := u.tra, tea := u.tea } u

/-- `SlotIllegalSet` of 44 R403, the undefined words apart. -/
def SlotIllegalSet (j : Instr) : Prop :=
  ∃ (d : BitVec 8) (e : BitVec 12) (n : Reg),
    j ∈ [.bf d, .bt d, .bfS d, .btS d, .bra e, .braf n, .bsr e, .bsrf n, .jmp n, .jsr n, .rts, .rte,
      .trapa d, .ldcSr n, .ldcLSr n, .sleep]

/-- The PC-relative instructions of 44 R404. -/
def PcRelativeSet (j : Instr) : Prop :=
  ∃ (d : BitVec 8) (n : Reg), j ∈ [.mova d, .movWPc d n, .movLPc d n]

/-- The FPU words' instructions of 30 R128. -/
def FpuSet (j : Instr) : Prop :=
  ∃ (op : BitVec 12) (n : Reg),
    j ∈ [.fpuGroup op, .ldsFpul n, .ldsFpscr n, .ldsLFpul n, .ldsLFpscr n, .stsFpul n, .stsFpscr n,
      .stsLFpul n, .stsLFpscr n]

/-! ## The undefined words (30_encoding.md R129) -/

/-- Low bytes undefined in group 0000 for every bits 11:8. -/
def undefinedLow0 : List (BitVec 8) :=
  [0x00, 0x01, 0x10, 0x11, 0x13, 0x20, 0x21, 0x30, 0x31, 0x33, 0x39, 0x3B, 0x40, 0x41, 0x43, 0x49,
   0x4A, 0x4B, 0x50, 0x51, 0x52, 0x53, 0x59, 0x5B, 0x60, 0x61, 0x62, 0x68, 0x69, 0x6B, 0x70, 0x71,
   0x72, 0x78, 0x79, 0x7A, 0x7B, 0x80, 0x81, 0x88, 0x89, 0x8A, 0x8B, 0x90, 0x91, 0x98, 0x99, 0x9A,
   0x9B, 0xA0, 0xA1, 0xA8, 0xA9, 0xAA, 0xB0, 0xB1, 0xB8, 0xB9, 0xBA, 0xBB, 0xC0, 0xC1, 0xC8, 0xC9,
   0xCA, 0xCB, 0xD0, 0xD1, 0xD8, 0xD9, 0xDA, 0xDB, 0xE0, 0xE1, 0xE8, 0xE9, 0xEA, 0xEB, 0xF0, 0xF1,
   0xF3, 0xF8, 0xF9, 0xFB]

/-- Low bytes undefined in group 0000 unless bits 11:8 are 0. -/
def undefinedLow0NonZero : List (BitVec 8) :=
  [0x08, 0x09, 0x0B, 0x18, 0x19, 0x1B, 0x28, 0x2B, 0x38, 0x48, 0x58, 0xAB]

/-- Low bytes undefined in group 0100 for every bits 11:8. -/
def undefinedLow4 : List (BitVec 8) :=
  [0x14, 0x30, 0x31, 0x34, 0x35, 0x38, 0x39, 0x3B, 0x40, 0x41, 0x42, 0x44, 0x45, 0x46, 0x48, 0x49,
   0x4A, 0x4B, 0x50, 0x51, 0x53, 0x54, 0x55, 0x57, 0x58, 0x59, 0x5B, 0x5E, 0x60, 0x61, 0x63, 0x64,
   0x65, 0x67, 0x68, 0x69, 0x6B, 0x6E, 0x70, 0x71, 0x72, 0x73, 0x74, 0x75, 0x76, 0x77, 0x78, 0x79,
   0x7A, 0x7B, 0x7E, 0x80, 0x81, 0x82, 0x84, 0x85, 0x86, 0x88, 0x89, 0x8A, 0x8B, 0x90, 0x91, 0x92,
   0x94, 0x95, 0x96, 0x98, 0x99, 0x9A, 0x9B, 0xA0, 0xA1, 0xA2, 0xA4, 0xA5, 0xA6, 0xA8, 0xAA, 0xAB,
   0xB0, 0xB1, 0xB2, 0xB4, 0xB5, 0xB6, 0xB8, 0xB9, 0xBA, 0xBB, 0xC0, 0xC1, 0xC2, 0xC4, 0xC5, 0xC6,
   0xC8, 0xC9, 0xCA, 0xCB, 0xD0, 0xD1, 0xD2, 0xD4, 0xD5, 0xD6, 0xD8, 0xD9, 0xDA, 0xDB, 0xE0, 0xE1,
   0xE2, 0xE4, 0xE5, 0xE6, 0xE8, 0xEA, 0xEB, 0xF0, 0xF1, 0xF4, 0xF5, 0xF8, 0xF9, 0xFB]

/-- R129's list of the undefined words, by bits 15:12, 11:8, 7:4 and 3:0. -/
def undefinedWord (a b c d : BitVec 4) : Bool :=
  match a with
  | 0x0#4 => undefinedLow0.contains (c ++ d) || (undefinedLow0NonZero.contains (c ++ d) && decide (b ≠ 0))
  | 0x2#4 => decide (d = 0x3)
  | 0x3#4 => decide (d = 0x1) || decide (d = 0x9)
  | 0x4#4 => undefinedLow4.contains (c ++ d)
  | 0x8#4 => [0x2, 0x3, 0x6, 0x7, 0xA, 0xC, 0xE].contains b
  | _ => false

/-! ## The step -/

/-- The engine's next step fetches the word `w` (00 R19): no event comes first, the engine is awake and unmarked
between steps, and the word at PC is there to fetch (20 R88, R92). -/
structure Fetches (s : State) (w : Half) : Prop where
  events : s.events = []
  awake : s.sleeping = false
  slot : s.ds = .normal
  unmarked : s.mark = none
  accessible : Accessible s.fresh .read .word s.pc
  word : (s.fresh.memRead .word s.pc).setWidth 16 = w

/-- The word of the delay slot after the branch at `u.pc` is `w` (44 R401). -/
structure SlotHolds (u : State) (w : Half) : Prop where
  answers : u.answers .read (u.pc + 2) 2 = true
  word : (u.memRead .word (u.pc + 2)).setWidth 16 = w

/-- The pair's branch has executed: it left `u`, DS pending with target `t` (44 R401). -/
def Branched (i : Instr) (s u : State) (t : Word) : Prop :=
  exec i s.fresh = .next u ∧ ∃ undo, u.ds = .pending t undo

end Sys2Proof.Machine
end

