-- ==== Sys2Proof/WellFormed.lean ====
section
/-! DEFINITION. Well-formed operands (spec 30_encoding.md R125, R132). An instruction whose fields have
their encoding's widths has nothing left to check (R6), so the checks are the assembler's: a label or a
byte displacement becomes a field only if the field can hold it, and is refused by name otherwise. -/

namespace Sys2Proof

/-- Every instruction is well formed: each field has exactly its encoding's width, so "the out-of-range
logic error of the source cannot arise" (R6). -/
def Instr.wf (_ : Instr) : Bool := true

/-- Why the assembler refuses an operand (R132). `unaligned`: the distance is no multiple of the scale.
`outOfRange`: the field cannot hold it. Refusing is safe: no field value is invented. -/
inductive OperandError where
  | unaligned
  | outOfRange
deriving DecidableEq, Repr

/-- The field of `w` bits whose scaled two's-complement value is `distance` bytes (R125, scale 2: the
branches). -/
def signedField (w : Nat) (distance : Int) : Except OperandError (BitVec w) :=
  if distance % 2 ≠ 0 then .error .unaligned
  else if -(2 : Int) ^ w ≤ distance ∧ distance < (2 : Int) ^ w then .ok (BitVec.ofInt w (distance / 2))
  else .error .outOfRange

/-- The field of `w` bits whose scaled unsigned value is `distance` bytes (R125: @(disp,Rn),
@(disp,GBR), @(disp,PC)). -/
def unsignedField (w scale : Nat) (distance : Nat) : Except OperandError (BitVec w) :=
  if distance % scale ≠ 0 then .error .unaligned
  else if distance / scale < 2 ^ w then .ok (BitVec.ofNat w (distance / scale))
  else .error .outOfRange

/-- The field of BF, BT, BF/S, BT/S at `pc` for the label `target` (R125, R132). -/
def labelField8 (pc target : Word) : Except OperandError (BitVec 8) :=
  signedField 8 (target - (pc + 4)).toInt

/-- The field of BRA, BSR at `pc` for the label `target` (R125, R132). -/
def labelField12 (pc target : Word) : Except OperandError (BitVec 12) :=
  signedField 12 (target - (pc + 4)).toInt

/-- The field of `MOV.W @(disp,PC),Rn` at `pc` for the label `target` (R125, R132). -/
def literalWordField (pc target : Word) : Except OperandError (BitVec 8) :=
  unsignedField 8 2 (target - (pc + 4)).toNat

/-- The field of `MOV.L @(disp,PC),Rn` and `MOVA` at `pc` for the label `target` (R125, R132). -/
def literalLongField (pc target : Word) : Except OperandError (BitVec 8) :=
  unsignedField 8 4 (target - ((pc &&& 0xFFFFFFFC) + 4)).toNat

end Sys2Proof
end

