-- ==== Sys2Proof/Certificates/Slice0/Obligations.lean ====
section
/-! DEFINITION. The statements for the provers. Each says in its docstring which rule of spec/ it formalises,
or which choice of the model (log <n> is notes/assumptions/<n>.md) it is about. -/

open Sys2Proof Sys2Proof.Machine

/-- From any state whose next event is a reset, the step answers a state in which R0 to R15, the bank
registers, SR, GBR, VBR, SGR, SSR, SPC, DBR, PR, MAC are 0, PC is RESET_VECTOR, LDST and Sleeping are 0, DS
is Normal, no fault or refusal mark is set, and memory is unchanged; State.reset holds the same values. The
reset arrives as an event of the platform (the model's choice, log 10). [70_reset_and_hazards.md R680,
70_reset_and_hazards.md R681, log 10] -/
def Obligations.ResetLeavesTheValuesTheSpecGives : Prop :=
  let Values : State → Prop := fun u =>
    (∀ k, u.r k = 0) ∧ (∀ b, u.rBank b = 0) ∧ u.sr = 0 ∧ u.gbr = 0 ∧ u.vbr = 0 ∧ u.sgr = 0 ∧ u.ssr = 0 ∧
    u.spc = 0 ∧ u.dbr = 0 ∧ u.pr = 0 ∧ u.mac = 0 ∧ u.pc = u.params.resetVector ∧ u.ldst = false ∧
    u.sleeping = false ∧ u.ds = .normal ∧ u.mark = none
  Values State.reset ∧
  ∀ (s : State) (rest : List Event), s.events = .reset :: rest →
    ∃ u, step s = .next u ∧ Values u ∧ u.params = s.params ∧ SameMemory s u

/-- State.reset satisfies State.Inv: its memory is in canonical form (the model's own form, log 3), every SR
bit outside SR_MASK is 0, and DS is Normal. [10_state.md R35, 10_state.md R49, 20_memory.md R92, log 3] -/
def Obligations.ResetStateMeetsTheInvariant : Prop :=
  State.Inv State.reset

/-- For every state s with State.Inv s, whatever its events and parameters, if step s answers next u then
State.Inv u: memory stays in canonical form (log 3), the reserved bits of SR stay 0, and DS is Normal again
at the end of the step. [10_state.md R35, 10_state.md R37, 10_state.md R49, 20_memory.md R92,
60_exceptions.md R622, log 3, log 10] -/
def Obligations.EveryStepKeepsTheInvariant : Prop :=
  ∀ s u : State, s.Inv → step s = .next u → u.Inv

/-- For every well-formed instruction i, with every operand at every value its encoding admits, decode
(encode i) is i. The FPU rows are included: they decode (log 13) and are refused by their meaning.
[30_encoding.md R126, 30_encoding.md R128, log 13] -/
def Obligations.DecodeInvertsEncode : Prop :=
  ∀ i : Instr, i.wf = true → decode (encode i) = .ok i

/-- For every word w and instruction i with decode w = i: w AND mask = match for i's row of the opcode
table, and encode i = w (no bit is dropped). If decode w is rejected, w lies in no instruction's row. No
word lies in two different rows. The FPU rows are rows here (log 13). [30_encoding.md R126, 30_encoding.md
R127, log 13] -/
def Obligations.EveryWordDecodesToItsRowOnly : Prop :=
  (∀ (w : Half) (i : Instr), decode w = .ok i → w &&& i.row.1 = i.row.2 ∧ encode i = w) ∧
  (∀ w : Half, decode w = .error .undefinedWord → ∀ i : Instr, w &&& i.row.1 ≠ i.row.2) ∧
  (∀ (w : Half) (i j : Instr), w &&& i.row.1 = i.row.2 → w &&& j.row.1 = j.row.2 → i.row = j.row)

/-- One word per instruction family, as the spec's rules and test vectors write it, decodes to the
instruction it stands for. [30_encoding.md R126, 95_test_vectors.md] -/
def Obligations.SampleWordsDecode : Prop :=
  decode 0x321C = .ok (.add 1 2) ∧ decode 0x421C = .ok (.shad 1 2) ∧ decode 0x3214 = .ok (.div1 1 2) ∧
  decode 0x054F = .ok (.macL 4 5) ∧ decode 0xA006 = .ok (.bra 6) ∧ decode 0x112F = .ok (.movLStoreDisp 2 15 1) ∧
  decode 0x41BE = .ok (.ldcBank 1 3) ∧ decode 0xC320 = .ok (.trapa 0x20)

/-- When the next step fetches the word w (no event first, awake, unmarked, DS Normal, PC even and answered)
and w decodes to i: if executing i from the state with its report cleared (log 12) and the step counted (log
21) answers a state with DS Normal, the step answers that state; if it faults or is refused, the step does
so with the same reason. (A delayed branch leaves DS pending: DelaySlotControllerRunsThePair.) [00_scope.md
R19, log 10, log 12, log 21] -/
def Obligations.StepRunsTheDecodedInstruction : Prop :=
  ∀ (s : State) (w : Half) (i : Instr), Fetches s w → Encodes w i →
    (∀ u, exec i s.fresh = .next u → u.ds = .normal → step s = .next u) ∧
    (∀ f, exec i s.fresh = .fault f → step s = .fault f) ∧
    (∀ r, exec i s.fresh = .refused r → step s = .refused r)

/-- When the fetched instruction i is a delayed branch (executing it leaves DS pending with target t) and
the word v stands at PC + 2: if v is undefined or in SlotIllegalSet the step faults SlotIllegal; if v is an
FPU word the step is refused; if it is PC-relative with SLOT_PCREL = fault the step faults SlotPcRelative;
otherwise the slot instruction executes with PC = b + 2, and if it ends in next the step answers its state
with PC = t and DS Normal, if it raises e the step takes e from the state before the branch (so saved PC, PR
and SR are the branch's), and if it faults the step faults. The pending state's undo record (log 7), PC
staying at the branch (log 8) the cleared report (log 12) and the count of the step (log 21) are the
model's. [44_branch_delay_slot.md R401, 44_branch_delay_slot.md R403, 44_branch_delay_slot.md R405,
44_branch_delay_slot.md R406, 44_branch_delay_slot.md R404, 30_encoding.md R128, log 7, log 8, log 12, log
21] -/
def Obligations.DelaySlotControllerRunsThePair : Prop :=
  ∀ (s u : State) (w v : Half) (i : Instr) (t : Word),
    Fetches s w → Encodes w i → Branched i s u t → SlotHolds u v →
    (decode v = .error .undefinedWord → step s = .fault .slotIllegal) ∧
    ∀ j : Instr, Encodes v j →
      (SlotIllegalSet j → step s = .fault .slotIllegal) ∧
      (FpuSet j → step s = .refused .fpuInstruction) ∧
      (PcRelativeSet j → s.params.slotPcRel = .fault → step s = .fault .slotPcRelative) ∧
      (¬SlotIllegalSet j → ¬(PcRelativeSet j ∧ s.params.slotPcRel = .fault) →
        (∀ x, exec j { u with pc := s.pc + 2 } = .next x → x.ds = u.ds →
          step s = .next { x with pc := t, ds := .normal }) ∧
        (∀ e, exec j { u with pc := s.pc + 2 } = takeException e { u with pc := s.pc + 2 } →
          step s = takeException e s.fresh) ∧
        (∀ f, exec j { u with pc := s.pc + 2 } = .fault f → step s = .fault f))

/-- MOVA, MOV.W @(disp,PC),Rn and MOV.L @(disp,PC),Rn in the slot of a delayed branch at b: with SLOT_PCREL
= fault the step faults SlotPcRelative; with SLOT_PCREL = slot_address they execute with PC = b + 2, so
their base is b + 6 before masking: MOVA writes ((b + 2) AND 0xFFFFFFFC) + 4 + 4 * zext(d) to R0, and the
loads, when accessible, load from that address, or from b + 6 + 2 * zext(d) for the word form; PC ends at
the target. [R404] -/
def Obligations.PcRelativeInstructionInASlot : Prop :=
  ∀ (s u : State) (w v : Half) (i : Instr) (t : Word) (d : BitVec 8) (n : Reg),
    Fetches s w → Encodes w i → Branched i s u t → SlotHolds u v →
    (Encodes v (.mova d) ∨ Encodes v (.movWPc d n) ∨ Encodes v (.movLPc d n) →
      s.params.slotPcRel = .fault → step s = .fault .slotPcRelative) ∧
    (s.params.slotPcRel = .slotAddress →
      let long : Word := ((s.pc + 2) &&& 0xFFFFFFFC) + 4 + 4 * d.setWidth 32
      let word : Word := s.pc + 6 + 2 * d.setWidth 32
      (Encodes v (.mova d) → ∃ x, step s = .next x ∧ x.r 0 = long ∧ x.pc = t) ∧
      (Encodes v (.movLPc d n) → Accessible u .read .long long →
        ∃ x, step s = .next x ∧ x.r n = loadedValue u .long long ∧ x.pc = t) ∧
      (Encodes v (.movWPc d n) → Accessible u .read .word word →
        ∃ x, step s = .next x ∧ x.r n = loadedValue u .word word ∧ x.pc = t))

/-- A fetch at an even, answered address a reads MemRead(a, 2). At an odd address, with MISALIGNED = fault
it faults MisalignedFetch; with MISALIGNED = exception it raises InstructionAddressError with the address.
The engine's step fetches at PC and runs the word. The slot is fetched the same way at the branch address +
2: an undefined word there faults SlotIllegal, any other runs as the slot instruction; and when the fetched
instruction is a delayed branch, the step is that slot's run from the state the branch leaves (whose PC is
the branch's). [R88] -/
def Obligations.FetchReadsTheWordAtPcOrRaises : Prop :=
  (∀ (s : State) (a : Word) (k : Half → Result),
    (Accessible s .read .word a → s.fetch a k = k ((s.memRead .word a).setWidth 16)) ∧
    (a.toNat % 2 = 1 → s.params.misaligned = .fault → s.fetch a k = .fault .misalignedFetch) ∧
    (a.toNat % 2 = 1 → s.params.misaligned = .exception →
      s.fetch a k = takeException (.instructionAddressError a) s)) ∧
  (∀ s : State, s.events = [] → s.mark = none → s.ds = .normal → s.sleeping = false →
    step s = s.fresh.fetch s.pc fun w => runWord w s.fresh) ∧
  (∀ u : State, runSlot u = u.fetch (u.pc + 2) fun v =>
    match decode v with
    | .error .undefinedWord => .fault .slotIllegal
    | .ok j => runSlotInstr j u) ∧
  (∀ (s u : State) (w : Half) (i : Instr) (t : Word), Fetches s w → Encodes w i → Branched i s u t →
    u.pc = s.pc ∧ step s = runSlot u)

/-- A word fails to decode exactly when it is in R129's list. A step that fetches such a word takes
GeneralIllegalInstruction; in the slot of a delayed branch it faults SlotIllegal. [R129] -/
def Obligations.UndefinedWordsAreTheListedOnesAndRaise : Prop :=
  (∀ a b c d : BitVec 4, decode (nibbles a b c d) = .error .undefinedWord ↔ undefinedWord a b c d = true) ∧
  (∀ (s : State) (w : Half), Fetches s w → decode w = .error .undefinedWord →
    step s = takeException .generalIllegalInstruction s.fresh) ∧
  (∀ (s u : State) (w v : Half) (i : Instr) (t : Word), Fetches s w → Encodes w i → Branched i s u t →
    SlotHolds u v → decode v = .error .undefinedWord → step s = .fault .slotIllegal)

/-- Every word 1111 xxxx xxxx xxxx and the eight FPU-register transfers decode to FPU instructions;
executing one is refused with FpuInstruction from every state, and so is the step that fetches it. That the
refusal is the meaning's and not Decode's is the model's choice (log 13). [30_encoding.md R128, log 13] -/
def Obligations.FpuWordsAreRefused : Prop :=
  (∀ (op : BitVec 12) (s : State), Encodes (0b1111#4 ++ op) (.fpuGroup op) ∧ exec (.fpuGroup op) s = .refused .fpuInstruction) ∧
  (∀ (m : Reg) (s : State), Encodes (0b0100#4 ++ m ++ 0b0101#4 ++ 0b1010#4) (.ldsFpul m) ∧ exec (.ldsFpul m) s = .refused .fpuInstruction) ∧
  (∀ (m : Reg) (s : State), Encodes (0b0100#4 ++ m ++ 0b0110#4 ++ 0b1010#4) (.ldsFpscr m) ∧ exec (.ldsFpscr m) s = .refused .fpuInstruction) ∧
  (∀ (m : Reg) (s : State), Encodes (0b0100#4 ++ m ++ 0b0101#4 ++ 0b0110#4) (.ldsLFpul m) ∧ exec (.ldsLFpul m) s = .refused .fpuInstruction) ∧
  (∀ (m : Reg) (s : State), Encodes (0b0100#4 ++ m ++ 0b0110#4 ++ 0b0110#4) (.ldsLFpscr m) ∧ exec (.ldsLFpscr m) s = .refused .fpuInstruction) ∧
  (∀ (n : Reg) (s : State), Encodes (0b0000#4 ++ n ++ 0b0101#4 ++ 0b1010#4) (.stsFpul n) ∧ exec (.stsFpul n) s = .refused .fpuInstruction) ∧
  (∀ (n : Reg) (s : State), Encodes (0b0000#4 ++ n ++ 0b0110#4 ++ 0b1010#4) (.stsFpscr n) ∧ exec (.stsFpscr n) s = .refused .fpuInstruction) ∧
  (∀ (n : Reg) (s : State), Encodes (0b0100#4 ++ n ++ 0b0101#4 ++ 0b0010#4) (.stsLFpul n) ∧ exec (.stsLFpul n) s = .refused .fpuInstruction) ∧
  (∀ (n : Reg) (s : State), Encodes (0b0100#4 ++ n ++ 0b0110#4 ++ 0b0010#4) (.stsLFpscr n) ∧ exec (.stsLFpscr n) s = .refused .fpuInstruction) ∧
  (∀ (s : State) (w : Half) (j : Instr), Fetches s w → Encodes w j → FpuSet j → step s = .refused .fpuInstruction)

/-- With sel = SR.MD AND SR.RB under BANK_MODEL = architectural and 0 under storage: R[i] for i in 0..7 is
B_sel[i], R_BANK[i] is B_(1-sel)[i], R8 to R15 are one array, and writing SR changes no stored value. [R33] -/
def Obligations.BanksFollowSelAndKeepTheirValues : Prop :=
  ∀ (s : State) (i : BankReg),
    let sel := s.params.bankModel = .architectural ∧ s.sr.getLsbD 30 = true ∧ s.sr.getLsbD 29 = true
    (sel → s.r (0b0#1 ++ i) = Bank.read s.b1 i ∧ s.rBank i = Bank.read s.b0 i) ∧
    (¬sel → s.r (0b0#1 ++ i) = Bank.read s.b0 i ∧ s.rBank i = Bank.read s.b1 i) ∧
    s.r (0b1#1 ++ i) = Bank.read s.rh i ∧
    ∀ v : Word, (s.setSr v).b0 = s.b0 ∧ (s.setSr v).b1 = s.b1 ∧ (s.setSr v).rh = s.rh

/-- For every state, register and value: writing R[i] makes R[i] read the value and leaves every other
general register and every bank register; writing R_BANK[b] makes it read the value and leaves every other
bank register and every general register. [10_state.md R30, 10_state.md R31, 10_state.md R33, 00_scope.md
R15] -/
def Obligations.RegisterWritesReadBackAndReachNothingElse : Prop :=
  ∀ (s : State) (v : Word),
    (∀ i : Reg, (s.setR i v).r i = v ∧ SameRegs [i] s (s.setR i v) ∧ SameBanks s (s.setR i v)) ∧
    (∀ b : BankReg, (s.setRBank b v).rBank b = v ∧ (∀ c, c ≠ b → (s.setRBank b v).rBank c = s.rBank c) ∧
      SameRegs [] s (s.setRBank b v))

/-- With ENDIAN = little MemRead(a, 2) is b[a] OR b[a+1] << 8 and MemRead(a, 4) is b[a] OR b[a+1] << 8 OR
b[a+2] << 16 OR b[a+3] << 24, zero-extended; with big the byte at the lowest address is the most
significant. MemWrite stores the same bytes: in RAM (20 R92) the value reads back, and no byte outside the
access changes. No instruction changes ENDIAN. [R81] -/
def Obligations.MemReadAssemblesBytesInTheByteOrder : Prop :=
  (∀ (s : State) (a : Word),
    let z : Word → Word := fun x => (s.byteAt x).setWidth 32
    s.memRead .byte a = z a ∧
    (s.params.endian = .little → s.memRead .word a = (z a ||| z (a + 1) <<< 8) ∧
      s.memRead .long a = (z a ||| z (a + 1) <<< 8 ||| z (a + 2) <<< 16 ||| z (a + 3) <<< 24)) ∧
    (s.params.endian = .big → s.memRead .word a = (z a <<< 8 ||| z (a + 1)) ∧
      s.memRead .long a = (z a <<< 24 ||| z (a + 1) <<< 16 ||| z (a + 2) <<< 8 ||| z (a + 3)))) ∧
  (∀ (s : State) (w : Width) (a v : Word), (Keeps s a (Width.bytes w) → Holds (s.memWrite w a v) w a v) ∧
    SameMemoryBut a (Width.bytes w) s (s.memWrite w a v)) ∧
  (∀ (i : Instr) (s u : State), exec i s = .next u → u.params.endian = s.params.endian)

/-- With ENDIAN = little and the four bytes from a on in RAM (20 R92), after MemWrite(a, 4, v) the byte at a
is v[7:0], the bytes at a+1, a+2, a+3 are the next ones, the word at a is v[15:0] and the word at a+2 is
v[31:16]. A byte stored inside a long is seen by the long's read. [20_memory.md R82] -/
def Obligations.BytesOfAStoredLongAreSeenAtEveryWidth : Prop :=
  ∀ (s : State) (a v : Word), s.params.endian = .little → Keeps s a 4 →
    let u := s.memWrite .long a v
    u.byteAt a = v.extractLsb' 0 8 ∧ u.byteAt (a + 1) = v.extractLsb' 8 8 ∧
    u.byteAt (a + 2) = v.extractLsb' 16 8 ∧ u.byteAt (a + 3) = v.extractLsb' 24 8 ∧
    u.memRead .word a = (v.extractLsb' 0 16).setWidth 32 ∧
    u.memRead .word (a + 2) = (v.extractLsb' 16 16).setWidth 32 ∧
    ∀ b : Byte, (u.setByte a b).memRead .long a = v.extractLsb' 8 24 ++ b

/-- A byte access is always aligned, a word access when the address is even, a long access when it is a
multiple of 4, and the PC-relative long address always is. A misaligned load or store, with MISALIGNED =
fault, faults MisalignedData; with MISALIGNED = exception it raises DataAddressErrorRead or
DataAddressErrorWrite with the address. [R83, R84] -/
def Obligations.MisalignedAccessesFaultOrRaise : Prop :=
  (∀ a : Word, Width.aligned .byte a = true ∧ (Width.aligned .word a = true ↔ a.toNat % 2 = 0) ∧
    (Width.aligned .long a = true ↔ a.toNat % 4 = 0)) ∧
  (∀ (s : State) (d : BitVec 8), Width.aligned .long (s.eaPcLong d) = true) ∧
  (∀ (s : State) (w : Width) (a v : Word) (k : Word → Result) (c : State → Result),
    Width.aligned w a = false →
    (s.params.misaligned = .fault → s.load w a k = .fault .misalignedData ∧
      s.store w a v c = .fault .misalignedData) ∧
    (s.params.misaligned = .exception → s.load w a k = takeException (.dataAddressErrorRead a) s ∧
      s.store w a v c = takeException (.dataAddressErrorWrite a) s))

/-- ADD Rm,Rn writes R[n] + R[m]; ADD #imm,Rn writes R[n] + sext(i); SUB writes R[n] - R[m]; NEG writes 0 -
R[m], all modulo 2^32; nothing else but PC changes. Each clause also states the encoding. [R201, R202, R205,
R208] -/
def Obligations.AddAndSubtractWrapAndWriteNoFlag : Prop :=
  (∀ (m n : Reg) (s : State), Encodes (0b0011#4 ++ n ++ m ++ 0b1100#4) (.add m n) ∧
    Completes (.add m n) s fun u => u.r n = s.r n + s.r m ∧ OnlyWrites [n] 0 s u) ∧
  (∀ (i : BitVec 8) (n : Reg) (s : State), Encodes (0b0111#4 ++ n ++ i) (.addImm i n) ∧
    Completes (.addImm i n) s fun u => u.r n = s.r n + i.signExtend 32 ∧ OnlyWrites [n] 0 s u) ∧
  (∀ (m n : Reg) (s : State), Encodes (0b0011#4 ++ n ++ m ++ 0b1000#4) (.sub m n) ∧
    Completes (.sub m n) s fun u => u.r n = s.r n - s.r m ∧ OnlyWrites [n] 0 s u) ∧
  (∀ (m n : Reg) (s : State), Encodes (0b0110#4 ++ n ++ m ++ 0b1011#4) (.neg m n) ∧
    Completes (.neg m n) s fun u => u.r n = 0 - s.r m ∧ OnlyWrites [n] 0 s u)

/-- ADDC: with sum = R[n] + R[m] + T exact, R[n] is sum mod 2^32 and T is 1 iff sum >= 2^32. SUBC: with diff
= R[n] - R[m] - T, R[n] is diff mod 2^32 and T is 1 iff diff < 0. NEGC the same with 0 for R[n]. Nothing
else but PC changes. ADDV writes R[n] + R[m] and T = 1 iff the exact signed sum does not fit 32 bits, which
is when both operands have the same sign and the result's sign differs; SUBV likewise for the difference; DT
writes R[n] - 1 and T = 1 iff the new value is 0. Nothing else but PC changes. [R203, R206, R209, R204,
R207, R210] -/
def Obligations.CarryBorrowOverflowAndDecrementSetT : Prop :=
  (∀ (m n : Reg) (s : State), Encodes (0b0011#4 ++ n ++ m ++ 0b1110#4) (.addc m n) ∧
    let sum := (s.r n).toNat + (s.r m).toNat + (if s.t then 1 else 0)
    Completes (.addc m n) s fun u => (u.r n).toNat = sum % 2 ^ 32 ∧ (u.t = true ↔ 2 ^ 32 ≤ sum) ∧ OnlyWrites [n] tBit s u) ∧
  (∀ (m n : Reg) (s : State), Encodes (0b0011#4 ++ n ++ m ++ 0b1010#4) (.subc m n) ∧
    let diff := ((s.r n).toNat : Int) - (s.r m).toNat - (if s.t then 1 else 0)
    Completes (.subc m n) s fun u => ((u.r n).toNat : Int) = diff % 2 ^ 32 ∧ (u.t = true ↔ diff < 0) ∧
      OnlyWrites [n] tBit s u) ∧
  (∀ (m n : Reg) (s : State), Encodes (0b0110#4 ++ n ++ m ++ 0b1010#4) (.negc m n) ∧
    let diff := (0 : Int) - (s.r m).toNat - (if s.t then 1 else 0)
    Completes (.negc m n) s fun u => ((u.r n).toNat : Int) = diff % 2 ^ 32 ∧ (u.t = true ↔ diff < 0) ∧
      OnlyWrites [n] tBit s u) ∧
  (∀ (m n : Reg) (s : State), Encodes (0b0011#4 ++ n ++ m ++ 0b1111#4) (.addv m n) ∧
    Completes (.addv m n) s fun u => let r := s.r n + s.r m
      u.r n = r ∧ (u.t = true ↔ (s.r n).msb = (s.r m).msb ∧ r.msb ≠ (s.r n).msb) ∧
      (u.t = true ↔ r.toInt ≠ (s.r n).toInt + (s.r m).toInt) ∧ OnlyWrites [n] tBit s u) ∧
  (∀ (m n : Reg) (s : State), Encodes (0b0011#4 ++ n ++ m ++ 0b1011#4) (.subv m n) ∧
    Completes (.subv m n) s fun u => let r := s.r n - s.r m
      u.r n = r ∧ (u.t = true ↔ (s.r n).msb ≠ (s.r m).msb ∧ r.msb ≠ (s.r n).msb) ∧
      (u.t = true ↔ r.toInt ≠ (s.r n).toInt - (s.r m).toInt) ∧ OnlyWrites [n] tBit s u) ∧
  (∀ (n : Reg) (s : State), Encodes (0b0100#4 ++ n ++ 0b0001#4 ++ 0b0000#4) (.dt n) ∧
    Completes (.dt n) s fun u => u.r n = s.r n - 1 ∧ (u.t = true ↔ u.r n = 0) ∧ OnlyWrites [n] tBit s u)

/-- EXTS.B and EXTS.W write the sign extension, EXTU.B and EXTU.W the zero extension, of R[m][7:0] or
R[m][15:0]; nothing else but PC changes. AND, OR, XOR Rm,Rn write the bitwise result to R[n]; the #imm forms
write R[0] with the zero-extended immediate; NOT writes the complement of R[m]. Nothing else but PC changes.
[R211, R212, R213, R214, R224, R225, R227, R228, R230, R231, R233] -/
def Obligations.ExtensionsAndLogicOnRegisters : Prop :=
  (∀ (m n : Reg) (s : State), Encodes (0b0110#4 ++ n ++ m ++ 0b1110#4) (.extsB m n) ∧
    Completes (.extsB m n) s fun u => u.r n = ((s.r m).extractLsb' 0 8).signExtend 32 ∧ OnlyWrites [n] 0 s u) ∧
  (∀ (m n : Reg) (s : State), Encodes (0b0110#4 ++ n ++ m ++ 0b1111#4) (.extsW m n) ∧
    Completes (.extsW m n) s fun u => u.r n = ((s.r m).extractLsb' 0 16).signExtend 32 ∧ OnlyWrites [n] 0 s u) ∧
  (∀ (m n : Reg) (s : State), Encodes (0b0110#4 ++ n ++ m ++ 0b1100#4) (.extuB m n) ∧
    Completes (.extuB m n) s fun u => u.r n = ((s.r m).extractLsb' 0 8).setWidth 32 ∧ OnlyWrites [n] 0 s u) ∧
  (∀ (m n : Reg) (s : State), Encodes (0b0110#4 ++ n ++ m ++ 0b1101#4) (.extuW m n) ∧
    Completes (.extuW m n) s fun u => u.r n = ((s.r m).extractLsb' 0 16).setWidth 32 ∧ OnlyWrites [n] 0 s u) ∧
  (∀ (m n : Reg) (s : State), Encodes (0b0010#4 ++ n ++ m ++ 0b1001#4) (.andReg m n) ∧
    Completes (.andReg m n) s fun u => u.r n = s.r n &&& s.r m ∧ OnlyWrites [n] 0 s u) ∧
  (∀ (i : BitVec 8) (s : State), Encodes (0b1100#4 ++ 0b1001#4 ++ i) (.andImm i) ∧
    Completes (.andImm i) s fun u => u.r 0 = s.r 0 &&& i.setWidth 32 ∧ OnlyWrites [0] 0 s u) ∧
  (∀ (m n : Reg) (s : State), Encodes (0b0010#4 ++ n ++ m ++ 0b1011#4) (.orReg m n) ∧
    Completes (.orReg m n) s fun u => u.r n = s.r n ||| s.r m ∧ OnlyWrites [n] 0 s u) ∧
  (∀ (i : BitVec 8) (s : State), Encodes (0b1100#4 ++ 0b1011#4 ++ i) (.orImm i) ∧
    Completes (.orImm i) s fun u => u.r 0 = s.r 0 ||| i.setWidth 32 ∧ OnlyWrites [0] 0 s u) ∧
  (∀ (m n : Reg) (s : State), Encodes (0b0010#4 ++ n ++ m ++ 0b1010#4) (.xorReg m n) ∧
    Completes (.xorReg m n) s fun u => u.r n = s.r n ^^^ s.r m ∧ OnlyWrites [n] 0 s u) ∧
  (∀ (i : BitVec 8) (s : State), Encodes (0b1100#4 ++ 0b1010#4 ++ i) (.xorImm i) ∧
    Completes (.xorImm i) s fun u => u.r 0 = s.r 0 ^^^ i.setWidth 32 ∧ OnlyWrites [0] 0 s u) ∧
  (∀ (m n : Reg) (s : State), Encodes (0b0110#4 ++ n ++ m ++ 0b0111#4) (.notReg m n) ∧
    Completes (.notReg m n) s fun u => u.r n = ~~~(s.r m) ∧ OnlyWrites [n] 0 s u)

/-- CMP/EQ: R[n] = R[m]; CMP/EQ #imm: R[0] = sext(i); CMP/HS, CMP/HI: unsigned >=, >; CMP/GE, CMP/GT: signed
>=, >; CMP/PZ, CMP/PL: signed >= 0, > 0. Only T and PC change. CMP/STR sets T to 1 iff at least one of the
four corresponding bytes of R[n] and R[m] are equal; TST Rm,Rn iff R[n] AND R[m] = 0; TST #imm,R0 iff R[0]
AND zext(i) = 0. Only T and PC change. [R215, R216, R217, R218, R219, R220, R221, R222, R223, R234, R235] -/
def Obligations.ComparesAndTestsWriteOnlyT : Prop :=
  (∀ (m n : Reg) (s : State), Encodes (0b0011#4 ++ n ++ m ++ 0b0000#4) (.cmpEq m n) ∧
    Completes (.cmpEq m n) s fun u => (u.t = true ↔ s.r n = s.r m) ∧ OnlyWrites [] tBit s u) ∧
  (∀ (i : BitVec 8) (s : State), Encodes (0b1000#4 ++ 0b1000#4 ++ i) (.cmpEqImm i) ∧
    Completes (.cmpEqImm i) s fun u => (u.t = true ↔ s.r 0 = i.signExtend 32) ∧ OnlyWrites [] tBit s u) ∧
  (∀ (m n : Reg) (s : State), Encodes (0b0011#4 ++ n ++ m ++ 0b0010#4) (.cmpHs m n) ∧
    Completes (.cmpHs m n) s fun u => (u.t = true ↔ (s.r m).toNat ≤ (s.r n).toNat) ∧ OnlyWrites [] tBit s u) ∧
  (∀ (m n : Reg) (s : State), Encodes (0b0011#4 ++ n ++ m ++ 0b0011#4) (.cmpGe m n) ∧
    Completes (.cmpGe m n) s fun u => (u.t = true ↔ (s.r m).toInt ≤ (s.r n).toInt) ∧ OnlyWrites [] tBit s u) ∧
  (∀ (m n : Reg) (s : State), Encodes (0b0011#4 ++ n ++ m ++ 0b0110#4) (.cmpHi m n) ∧
    Completes (.cmpHi m n) s fun u => (u.t = true ↔ (s.r m).toNat < (s.r n).toNat) ∧ OnlyWrites [] tBit s u) ∧
  (∀ (m n : Reg) (s : State), Encodes (0b0011#4 ++ n ++ m ++ 0b0111#4) (.cmpGt m n) ∧
    Completes (.cmpGt m n) s fun u => (u.t = true ↔ (s.r m).toInt < (s.r n).toInt) ∧ OnlyWrites [] tBit s u) ∧
  (∀ (n : Reg) (s : State), Encodes (0b0100#4 ++ n ++ 0b0001#4 ++ 0b0001#4) (.cmpPz n) ∧
    Completes (.cmpPz n) s fun u => (u.t = true ↔ 0 ≤ (s.r n).toInt) ∧ OnlyWrites [] tBit s u) ∧
  (∀ (n : Reg) (s : State), Encodes (0b0100#4 ++ n ++ 0b0001#4 ++ 0b0101#4) (.cmpPl n) ∧
    Completes (.cmpPl n) s fun u => (u.t = true ↔ 0 < (s.r n).toInt) ∧ OnlyWrites [] tBit s u) ∧
  (∀ (m n : Reg) (s : State), Encodes (0b0010#4 ++ n ++ m ++ 0b1100#4) (.cmpStr m n) ∧
    Completes (.cmpStr m n) s fun u => (u.t = true ↔ ∃ k : Fin 4, (s.r n).extractLsb' (8 * k) 8 = (s.r m).extractLsb' (8 * k) 8) ∧ OnlyWrites [] tBit s u) ∧
  (∀ (m n : Reg) (s : State), Encodes (0b0010#4 ++ n ++ m ++ 0b1000#4) (.tst m n) ∧
    Completes (.tst m n) s fun u => (u.t = true ↔ s.r n &&& s.r m = 0) ∧ OnlyWrites [] tBit s u) ∧
  (∀ (i : BitVec 8) (s : State), Encodes (0b1100#4 ++ 0b1000#4 ++ i) (.tstImm i) ∧
    Completes (.tstImm i) s fun u => (u.t = true ↔ s.r 0 &&& i.setWidth 32 = 0) ∧ OnlyWrites [] tBit s u)

/-- With a = GBR + R[0] modulo 2^32: when the port answers both the read and the write of a, the byte at a,
in RAM, becomes its old value AND, OR or XOR i, and every other byte and everything else but PC is
unchanged; when it does not, the engine has no step. TAS.B @Rn: T is 1 iff the byte at R[n] was 0; the byte,
in RAM, becomes its old value OR 0x80, every other byte unchanged. TST.B #imm,@(R0,GBR): T is 1 iff the byte
at GBR + R[0] AND i is 0; memory unchanged. An address the port does not answer leaves the engine without a
step. [R226, R229, R232, R236, R237] -/
def Obligations.ByteOperationsInMemory : Prop :=
  (∀ (i : BitVec 8) (s : State), Encodes (0b1100#4 ++ 0b1101#4 ++ i) (.andB i) ∧
    let a := s.gbr + s.r 0
    (¬Modifiable s a → exec (.andB i) s = .fault .portNoAnswer) ∧
    (Modifiable s a → Completes (.andB i) s fun u =>
      (Keeps s a 1 → u.byteAt a = s.byteAt a &&& i) ∧ OnlyStores .byte a [] 0 s u)) ∧
  (∀ (i : BitVec 8) (s : State), Encodes (0b1100#4 ++ 0b1111#4 ++ i) (.orB i) ∧
    let a := s.gbr + s.r 0
    (¬Modifiable s a → exec (.orB i) s = .fault .portNoAnswer) ∧
    (Modifiable s a → Completes (.orB i) s fun u =>
      (Keeps s a 1 → u.byteAt a = s.byteAt a ||| i) ∧ OnlyStores .byte a [] 0 s u)) ∧
  (∀ (i : BitVec 8) (s : State), Encodes (0b1100#4 ++ 0b1110#4 ++ i) (.xorB i) ∧
    let a := s.gbr + s.r 0
    (¬Modifiable s a → exec (.xorB i) s = .fault .portNoAnswer) ∧
    (Modifiable s a → Completes (.xorB i) s fun u =>
      (Keeps s a 1 → u.byteAt a = s.byteAt a ^^^ i) ∧ OnlyStores .byte a [] 0 s u)) ∧
  (∀ (n : Reg) (s : State), Encodes (0b0100#4 ++ n ++ 0b0001#4 ++ 0b1011#4) (.tasB n) ∧
    (¬Modifiable s (s.r n) → exec (.tasB n) s = .fault .portNoAnswer) ∧
    (Modifiable s (s.r n) → Completes (.tasB n) s fun u => (u.t = true ↔ s.byteAt (s.r n) = 0) ∧
      (Keeps s (s.r n) 1 → u.byteAt (s.r n) = s.byteAt (s.r n) ||| 0x80) ∧
      OnlyStores .byte (s.r n) [] tBit s u)) ∧
  (∀ (i : BitVec 8) (s : State), Encodes (0b1100#4 ++ 0b1100#4 ++ i) (.tstB i) ∧
    let a := s.gbr + s.r 0
    (s.answers .read a 1 = false → exec (.tstB i) s = .fault .portNoAnswer) ∧
    (s.answers .read a 1 = true → Completes (.tstB i) s fun u =>
      (u.t = true ↔ s.byteAt a &&& i = 0) ∧ OnlyWrites [] tBit s u))

/-- Each one-bit shift or rotate writes R[n] as the rule concatenates it and T the bit shifted out: SHLL and
SHAL {R[30:0], 0}, SHLR {0, R[31:1]}, SHAR {R[31], R[31:1]}, ROTL {R[30:0], R[31]}, ROTR {R[0], R[31:1]},
ROTCL {R[30:0], T}, ROTCR {T, R[31:1]}. Nothing else but PC changes. [R301, R302, R303, R304, R311, R312,
R313, R314] -/
def Obligations.OneBitShiftsAndRotates : Prop :=
  (∀ (n : Reg) (s : State), Encodes (0b0100#4 ++ n ++ 0b0000#4 ++ 0b0000#4) (.shll n) ∧
    Completes (.shll n) s fun u => u.r n = (s.r n).extractLsb' 0 31 ++ 0#1 ∧ u.t = (s.r n).getLsbD 31 ∧ OnlyWrites [n] tBit s u) ∧
  (∀ (n : Reg) (s : State), Encodes (0b0100#4 ++ n ++ 0b0000#4 ++ 0b0001#4) (.shlr n) ∧
    Completes (.shlr n) s fun u => u.r n = 0#1 ++ (s.r n).extractLsb' 1 31 ∧ u.t = (s.r n).getLsbD 0 ∧ OnlyWrites [n] tBit s u) ∧
  (∀ (n : Reg) (s : State), Encodes (0b0100#4 ++ n ++ 0b0010#4 ++ 0b0000#4) (.shal n) ∧
    Completes (.shal n) s fun u => u.r n = (s.r n).extractLsb' 0 31 ++ 0#1 ∧ u.t = (s.r n).getLsbD 31 ∧ OnlyWrites [n] tBit s u) ∧
  (∀ (n : Reg) (s : State), Encodes (0b0100#4 ++ n ++ 0b0010#4 ++ 0b0001#4) (.shar n) ∧
    Completes (.shar n) s fun u => u.r n = (s.r n).extractLsb' 31 1 ++ (s.r n).extractLsb' 1 31 ∧ u.t = (s.r n).getLsbD 0 ∧ OnlyWrites [n] tBit s u) ∧
  (∀ (n : Reg) (s : State), Encodes (0b0100#4 ++ n ++ 0b0000#4 ++ 0b0100#4) (.rotl n) ∧
    Completes (.rotl n) s fun u => u.r n = (s.r n).extractLsb' 0 31 ++ (s.r n).extractLsb' 31 1 ∧ u.t = (s.r n).getLsbD 31 ∧ OnlyWrites [n] tBit s u) ∧
  (∀ (n : Reg) (s : State), Encodes (0b0100#4 ++ n ++ 0b0000#4 ++ 0b0101#4) (.rotr n) ∧
    Completes (.rotr n) s fun u => u.r n = (s.r n).extractLsb' 0 1 ++ (s.r n).extractLsb' 1 31 ∧ u.t = (s.r n).getLsbD 0 ∧ OnlyWrites [n] tBit s u) ∧
  (∀ (n : Reg) (s : State), Encodes (0b0100#4 ++ n ++ 0b0010#4 ++ 0b0100#4) (.rotcl n) ∧
    Completes (.rotcl n) s fun u => u.r n = (s.r n).extractLsb' 0 31 ++ BitVec.ofBool s.t ∧ u.t = (s.r n).getLsbD 31 ∧ OnlyWrites [n] tBit s u) ∧
  (∀ (n : Reg) (s : State), Encodes (0b0100#4 ++ n ++ 0b0010#4 ++ 0b0101#4) (.rotcr n) ∧
    Completes (.rotcr n) s fun u => u.r n = BitVec.ofBool s.t ++ (s.r n).extractLsb' 1 31 ∧ u.t = (s.r n).getLsbD 0 ∧ OnlyWrites [n] tBit s u)

/-- A left shift by k multiplies the unsigned value by 2^k modulo 2^32, a right shift divides it by 2^k;
nothing else but PC changes. With count c = R[m][4:0]: when R[m][31] = 0 both shift R[n] left by c;
otherwise SHAD shifts arithmetically right by 32 - c, giving all sign bits when c = 0, and SHLD logically
right by 32 - c, giving 0 when c = 0. Nothing else but PC changes. [R305, R306, R307, R308, R309, R310,
R315, R316] -/
def Obligations.MultiBitAndDynamicShiftsWriteNoFlag : Prop :=
  (∀ (n : Reg) (s : State), Encodes (0b0100#4 ++ n ++ 0b0000#4 ++ 0b1000#4) (.shll2 n) ∧
    Completes (.shll2 n) s fun u => (u.r n).toNat = (s.r n).toNat * 4 % 2 ^ 32 ∧ OnlyWrites [n] 0 s u) ∧
  (∀ (n : Reg) (s : State), Encodes (0b0100#4 ++ n ++ 0b0000#4 ++ 0b1001#4) (.shlr2 n) ∧
    Completes (.shlr2 n) s fun u => (u.r n).toNat = (s.r n).toNat / 4 ∧ OnlyWrites [n] 0 s u) ∧
  (∀ (n : Reg) (s : State), Encodes (0b0100#4 ++ n ++ 0b0001#4 ++ 0b1000#4) (.shll8 n) ∧
    Completes (.shll8 n) s fun u => (u.r n).toNat = (s.r n).toNat * 256 % 2 ^ 32 ∧ OnlyWrites [n] 0 s u) ∧
  (∀ (n : Reg) (s : State), Encodes (0b0100#4 ++ n ++ 0b0001#4 ++ 0b1001#4) (.shlr8 n) ∧
    Completes (.shlr8 n) s fun u => (u.r n).toNat = (s.r n).toNat / 256 ∧ OnlyWrites [n] 0 s u) ∧
  (∀ (n : Reg) (s : State), Encodes (0b0100#4 ++ n ++ 0b0010#4 ++ 0b1000#4) (.shll16 n) ∧
    Completes (.shll16 n) s fun u => (u.r n).toNat = (s.r n).toNat * 65536 % 2 ^ 32 ∧ OnlyWrites [n] 0 s u) ∧
  (∀ (n : Reg) (s : State), Encodes (0b0100#4 ++ n ++ 0b0010#4 ++ 0b1001#4) (.shlr16 n) ∧
    Completes (.shlr16 n) s fun u => (u.r n).toNat = (s.r n).toNat / 65536 ∧ OnlyWrites [n] 0 s u) ∧
  (∀ (m n : Reg) (s : State), Encodes (0b0100#4 ++ n ++ m ++ 0b1100#4) (.shad m n) ∧
    let c := (s.r m).toNat % 32
    Completes (.shad m n) s fun u =>
      ((s.r m).msb = false → u.r n = s.r n <<< c) ∧
      ((s.r m).msb = true → c = 0 → u.r n = if (s.r n).msb then 0xFFFFFFFF else 0) ∧
      ((s.r m).msb = true → c ≠ 0 → (u.r n).toInt = (s.r n).toInt / 2 ^ (32 - c)) ∧ OnlyWrites [n] 0 s u) ∧
  (∀ (m n : Reg) (s : State), Encodes (0b0100#4 ++ n ++ m ++ 0b1101#4) (.shld m n) ∧
    let c := (s.r m).toNat % 32
    Completes (.shld m n) s fun u =>
      ((s.r m).msb = false → u.r n = s.r n <<< c) ∧
      ((s.r m).msb = true → c = 0 → u.r n = 0) ∧
      ((s.r m).msb = true → c ≠ 0 → (u.r n).toNat = (s.r n).toNat / 2 ^ (32 - c)) ∧ OnlyWrites [n] 0 s u)

/-- DIV0U: M = Q = T = 0. DIV0S Rm,Rn: Q = R[n][31], M = R[m][31], T = 1 iff M differs from Q. No register
is written and nothing else but PC changes. With sh = R[n] << 1 OR T: (Q, M) = (0,0) or (1,1) subtracts
R[m], c the borrow; (0,1) or (1,0) adds it, c the carry. R[n] becomes the result modulo 2^32, Q = msb XOR M
XOR c, in the reference's row form too, and T = 1 iff the new Q equals M. M is unchanged and nothing else
but PC changes. [R351, R352, R353] -/
def Obligations.DivisionInitialisationAndStep : Prop :=
  (∀ (s : State), Encodes (0b0000#4 ++ 0b0000#4 ++ 0b0001#4 ++ 0b1001#4) .div0u ∧
    Completes .div0u s fun u => u.m = false ∧ u.q = false ∧ u.t = false ∧ OnlyWrites [] (mBit ||| qBit ||| tBit) s u) ∧
  (∀ (m n : Reg) (s : State), Encodes (0b0010#4 ++ n ++ m ++ 0b0111#4) (.div0s m n) ∧
    Completes (.div0s m n) s fun u => u.q = (s.r n).msb ∧ u.m = (s.r m).msb ∧ (u.t = true ↔ u.m ≠ u.q) ∧
      OnlyWrites [] (mBit ||| qBit ||| tBit) s u) ∧
  (∀ (m n : Reg) (s : State), Encodes (0b0011#4 ++ n ++ m ++ 0b0100#4) (.div1 m n) ∧
    let sh : Word := (s.r n <<< 1) ||| (if s.t then 1 else 0)
    let row := fun (r : Word) (c : Bool) => Completes (.div1 m n) s fun u =>
      u.r n = r ∧ u.q = ((s.r n).msb ^^ s.m ^^ c) ∧ (u.t = true ↔ u.q = s.m) ∧
      (u.q = if s.m = false then (if (s.r n).msb then !c else c) else (if (s.r n).msb then c else !c)) ∧
      OnlyWrites [n] (qBit ||| tBit) s u
    (s.q = false → s.m = false → row (sh - s.r m) (decide (sh.toNat < (s.r m).toNat))) ∧
    (s.q = false → s.m = true → row (sh + s.r m) (decide (2 ^ 32 ≤ sh.toNat + (s.r m).toNat))) ∧
    (s.q = true → s.m = false → row (sh + s.r m) (decide (2 ^ 32 ≤ sh.toNat + (s.r m).toNat))) ∧
    (s.q = true → s.m = true → row (sh - s.r m) (decide (sh.toNat < (s.r m).toNat))))

/-- DMULS.L and DMULU.L write the 64-bit signed and unsigned product to MAC, CLRMAC writes 0; MUL.L writes
the low 32 bits of the product to MACL, MULS.W and MULU.W the product of the low words, and MACH is
unchanged. Nothing else but PC changes. [R372, R373, R374, R375, R376, R379] -/
def Obligations.MultipliesWriteMacOrMacl : Prop :=
  (∀ (m n : Reg) (s : State), Encodes (0b0011#4 ++ n ++ m ++ 0b1101#4) (.dmulsL m n) ∧
    Completes (.dmulsL m n) s fun u => u.mac.toInt = (s.r n).toInt * (s.r m).toInt ∧ OnlyWrites [] 0 { s with mac := u.mac } u) ∧
  (∀ (m n : Reg) (s : State), Encodes (0b0011#4 ++ n ++ m ++ 0b0101#4) (.dmuluL m n) ∧
    Completes (.dmuluL m n) s fun u => u.mac.toNat = (s.r n).toNat * (s.r m).toNat ∧ OnlyWrites [] 0 { s with mac := u.mac } u) ∧
  (∀ (m n : Reg) (s : State), Encodes (0b0000#4 ++ n ++ m ++ 0b0111#4) (.mulL m n) ∧
    Completes (.mulL m n) s fun u => u.macl.toNat = (s.r n).toNat * (s.r m).toNat % 2 ^ 32 ∧ u.mach = s.mach ∧ OnlyWrites [] 0 { s with mac := u.mac } u) ∧
  (∀ (m n : Reg) (s : State), Encodes (0b0010#4 ++ n ++ m ++ 0b1111#4) (.mulsW m n) ∧
    Completes (.mulsW m n) s fun u => u.macl.toInt = ((s.r n).extractLsb' 0 16).toInt * ((s.r m).extractLsb' 0 16).toInt ∧
      u.mach = s.mach ∧ OnlyWrites [] 0 { s with mac := u.mac } u) ∧
  (∀ (m n : Reg) (s : State), Encodes (0b0010#4 ++ n ++ m ++ 0b1110#4) (.muluW m n) ∧
    Completes (.muluW m n) s fun u => u.macl.toNat = ((s.r n).toNat % 2 ^ 16) * ((s.r m).toNat % 2 ^ 16) ∧ u.mach = s.mach ∧
      OnlyWrites [] 0 { s with mac := u.mac } u) ∧
  (∀ (s : State), Encodes (0b0000#4 ++ 0b0000#4 ++ 0b0010#4 ++ 0b1000#4) .clrmac ∧
    Completes .clrmac s fun u => u.mach = 0 ∧ u.macl = 0 ∧ OnlyWrites [] 0 { s with mac := u.mac } u)

/-- MAC.L @Rm+,@Rn+ reads the long at R[n] first and at R[m] (R[n] + 4 when m = n) second. S = 0: MAC
becomes signed(MAC) + p modulo 2^64. S = 1: MAC becomes the 64-bit sign extension of signed(MAC[47:0]) + p
clamped to 48 bits. Each pointer gains 4, or R[n] gains 8 when m = n. A misaligned or unanswered read ends
the instruction before any write, the first read first. MAC.W @Rm+,@Rn+ reads the word at R[n] first and at
R[m] (R[n] + 2 when m = n) second, p their signed product. S = 0: MAC becomes signed(MAC) + p modulo 2^64. S
= 1: with doc64 MAC becomes signed(MAC) + p clamped to 32 bits and sign-extended; with macl_only MACL
becomes signed(MACL) + p clamped to 32 bits and MACH is unchanged. Each pointer gains 2, or R[n] gains 4
when m = n. A misaligned or unanswered read ends the instruction before any write. [R377, R378] -/
def Obligations.MacLongAndWordAccumulate : Prop :=
  (∀ (m n : Reg) (s : State), Encodes (0b0000#4 ++ n ++ m ++ 0b1111#4) (.macL m n) ∧
    let an := s.r n
    let am := if m = n then s.r n + 4 else s.r m
    Guarded .read .long an (.macL m n) s ∧
    (Accessible s .read .long an →
      (Width.aligned .long am = false → exec (.macL m n) s = addressError .read am s) ∧
      (Width.aligned .long am = true → s.answers .read am 4 = false → exec (.macL m n) s = .fault .portNoAnswer) ∧
      (Accessible s .read .long am → Completes (.macL m n) s fun u =>
        (let p := (s.memRead .long an).toInt * (s.memRead .long am).toInt
         (s.s = false → u.mac = BitVec.ofInt 64 (s.mac.toInt + p)) ∧
         (s.s = true → u.mac = (BitVec.ofInt 48 (max (-2 ^ 47) (min (2 ^ 47 - 1)
           ((s.mac.extractLsb' 0 48).toInt + p)))).signExtend 64)) ∧
        (m = n → u.r n = s.r n + 8) ∧ (m ≠ n → u.r n = s.r n + 4 ∧ u.r m = s.r m + 4) ∧
        OnlyWrites [m, n] 0 { s with mac := u.mac } u))) ∧
  (∀ (m n : Reg) (s : State), Encodes (0b0100#4 ++ n ++ m ++ 0b1111#4) (.macW m n) ∧
    let an := s.r n
    let am := if m = n then s.r n + 2 else s.r m
    Guarded .read .word an (.macW m n) s ∧
    (Accessible s .read .word an →
      (Width.aligned .word am = false → exec (.macW m n) s = addressError .read am s) ∧
      (Width.aligned .word am = true → s.answers .read am 2 = false → exec (.macW m n) s = .fault .portNoAnswer) ∧
      (Accessible s .read .word am → Completes (.macW m n) s fun u =>
        (let p := ((s.memRead .word an).setWidth 16).toInt * ((s.memRead .word am).setWidth 16).toInt
         (s.s = false → u.mac = BitVec.ofInt 64 (s.mac.toInt + p)) ∧
         (s.s = true → s.params.macwSat = .doc64 →
           u.mac.toInt = max (-2 ^ 31) (min (2 ^ 31 - 1) (s.mac.toInt + p))) ∧
         (s.s = true → s.params.macwSat = .maclOnly → u.mach = s.mach ∧
           u.macl.toInt = max (-2 ^ 31) (min (2 ^ 31 - 1) (s.macl.toInt + p)))) ∧
        (m = n → u.r n = s.r n + 4) ∧ (m ≠ n → u.r n = s.r n + 2 ∧ u.r m = s.r m + 2) ∧
        OnlyWrites [m, n] 0 { s with mac := u.mac } u)))

/-- After LDS Rx,MACH and then LDS Ry,MACL, MAC is Rx concatenated with Ry, and STS MACH and STS MACL then
read Rx and Ry. [43_multiply_accumulate.md R380, 10_state.md R45] -/
def Obligations.MacHalvesRoundTrip : Prop :=
  ∀ (x y n : Reg) (s : State), Completes (.ldsMach x) s fun u => Completes (.ldsMacl y) u fun v =>
    v.mac = s.r x ++ s.r y ∧ Completes (.stsMach n) v (fun a => a.r n = s.r x) ∧
    Completes (.stsMacl n) v (fun a => a.r n = s.r y)

/-- BF label jumps to PC + 4 + 2 * sext(d) when T = 0 and goes on to PC + 2 when T = 1; BT the other way
round; DS is not entered and nothing else changes. BF/S: target PC + 4 + 2 * sext(d) when T = 0, PC + 4 when
T = 1; BT/S the other way round; BRA: PC + 4 + 2 * sext(d) with a 12-bit d; BRAF: PC + 4 + R[n]; JMP: R[n];
RTS: PR. DS becomes DelaySlotPending(target), the target is not yet written to PC, nothing else changes.
BSR, BSRF and JSR write PR = PC + 4 and enter DelaySlotPending with target PC + 4 + 2 * sext(d), PC + 4 +
R[n] and R[n]; nothing else changes. [R410, R411, R412, R413, R414, R415, R418, R420, R416, R417, R419] -/
def Obligations.BranchesAndCallsReachTheirTargets : Prop :=
  (∀ (d : BitVec 8) (s : State), Encodes (0b1000#4 ++ 0b1011#4 ++ d) (.bf d) ∧
    Completes (.bf d) s fun u => OnlyMoves (if s.t then s.pc + 2 else s.pc + 4 + 2 * d.signExtend 32) s u) ∧
  (∀ (d : BitVec 8) (s : State), Encodes (0b1000#4 ++ 0b1001#4 ++ d) (.bt d) ∧
    Completes (.bt d) s fun u => OnlyMoves (if s.t then s.pc + 4 + 2 * d.signExtend 32 else s.pc + 2) s u) ∧
  (∀ (d : BitVec 8) (s : State), Encodes (0b1000#4 ++ 0b1111#4 ++ d) (.bfS d) ∧
    Completes (.bfS d) s fun u => (∃ undo, u.ds = .pending (if s.t then s.pc + 4 else s.pc + 4 + 2 * d.signExtend 32) undo) ∧ OnlyMoves s.pc { s with ds := u.ds } u) ∧
  (∀ (d : BitVec 8) (s : State), Encodes (0b1000#4 ++ 0b1101#4 ++ d) (.btS d) ∧
    Completes (.btS d) s fun u => (∃ undo, u.ds = .pending (if s.t then s.pc + 4 + 2 * d.signExtend 32 else s.pc + 4) undo) ∧ OnlyMoves s.pc { s with ds := u.ds } u) ∧
  (∀ (d : BitVec 12) (s : State), Encodes (0b1010#4 ++ d) (.bra d) ∧
    Completes (.bra d) s fun u => (∃ undo, u.ds = .pending (s.pc + 4 + 2 * d.signExtend 32) undo) ∧ OnlyMoves s.pc { s with ds := u.ds } u) ∧
  (∀ (n : Reg) (s : State), Encodes (0b0000#4 ++ n ++ 0b0010#4 ++ 0b0011#4) (.braf n) ∧
    Completes (.braf n) s fun u => (∃ undo, u.ds = .pending (s.pc + 4 + s.r n) undo) ∧ OnlyMoves s.pc { s with ds := u.ds } u) ∧
  (∀ (n : Reg) (s : State), Encodes (0b0100#4 ++ n ++ 0b0010#4 ++ 0b1011#4) (.jmp n) ∧
    Completes (.jmp n) s fun u => (∃ undo, u.ds = .pending (s.r n) undo) ∧ OnlyMoves s.pc { s with ds := u.ds } u) ∧
  (∀ (s : State), Encodes (0b0000#4 ++ 0b0000#4 ++ 0b0000#4 ++ 0b1011#4) .rts ∧
    Completes .rts s fun u => (∃ undo, u.ds = .pending (s.pr) undo) ∧ OnlyMoves s.pc { s with ds := u.ds } u) ∧
  (∀ (d : BitVec 12) (s : State), Encodes (0b1011#4 ++ d) (.bsr d) ∧
    Completes (.bsr d) s fun u => u.pr = s.pc + 4 ∧ (∃ undo, u.ds = .pending (s.pc + 4 + 2 * d.signExtend 32) undo) ∧
      OnlyMoves s.pc { s with ds := u.ds, pr := u.pr } u) ∧
  (∀ (n : Reg) (s : State), Encodes (0b0000#4 ++ n ++ 0b0000#4 ++ 0b0011#4) (.bsrf n) ∧
    Completes (.bsrf n) s fun u => u.pr = s.pc + 4 ∧ (∃ undo, u.ds = .pending (s.pc + 4 + s.r n) undo) ∧
      OnlyMoves s.pc { s with ds := u.ds, pr := u.pr } u) ∧
  (∀ (n : Reg) (s : State), Encodes (0b0100#4 ++ n ++ 0b0000#4 ++ 0b1011#4) (.jsr n) ∧
    Completes (.jsr n) s fun u => u.pr = s.pc + 4 ∧ (∃ undo, u.ds = .pending (s.r n) undo) ∧
      OnlyMoves s.pc { s with ds := u.ds, pr := u.pr } u)

/-- RTE, where permitted, writes SR = SSR AND 0x700083F3, enters DelaySlotPending with target SPC, and
changes nothing else: the register names reach whatever banks the restored SR selects. In user mode with
PRIV_CHECK = on it raises the exception of R585. [R421] -/
def Obligations.ReturnFromExceptionRestoresSr : Prop :=
  (∀ (s : State), Encodes (0b0000#4 ++ 0b0000#4 ++ 0b0010#4 ++ 0b1011#4) .rte ∧
    (Permitted s → Completes .rte s fun u => u.sr = s.ssr &&& 0x700083F3 ∧
      (∃ undo, u.ds = .pending s.spc undo) ∧ OnlyMoves s.pc { s with ds := u.ds, sr := u.sr } u) ∧
    (¬Permitted s → s.ds = .normal → exec .rte s = takeException .generalIllegalInstruction s))

/-- MOV writes R[m], MOV #imm the sign-extended immediate, MOVA (PC AND 0xFFFFFFFC) + 4 + 4 * zext(d) to R0
(its slot form: PcRelativeInstructionInASlot), MOVT the flag T as 0 or 1, SWAP.B exchanges the two low bytes
of R[m], SWAP.W its halves, XTRCT writes R[m][15:0] above R[n][31:16]. Nothing else but PC changes. [R452,
R453, R487, R488, R489, R490] -/
def Obligations.RegisterMovesAndShuffles : Prop :=
  (∀ (m n : Reg) (s : State), Encodes (0b0110#4 ++ n ++ m ++ 0b0011#4) (.movReg m n) ∧
    Completes (.movReg m n) s fun u => u.r n = s.r m ∧ OnlyWrites [n] 0 s u) ∧
  (∀ (i : BitVec 8) (n : Reg) (s : State), Encodes (0b1110#4 ++ n ++ i) (.movImm i n) ∧
    Completes (.movImm i n) s fun u => u.r n = i.signExtend 32 ∧ OnlyWrites [n] 0 s u) ∧
  (∀ (d : BitVec 8) (s : State), Encodes (0b1100#4 ++ 0b0111#4 ++ d) (.mova d) ∧
    Completes (.mova d) s fun u => u.r 0 = (s.pc &&& 0xFFFFFFFC) + 4 + 4 * d.setWidth 32 ∧ OnlyWrites [0] 0 s u) ∧
  (∀ (n : Reg) (s : State), Encodes (0b0000#4 ++ n ++ 0b0010#4 ++ 0b1001#4) (.movt n) ∧
    Completes (.movt n) s fun u => u.r n = (BitVec.ofBool s.t).setWidth 32 ∧ OnlyWrites [n] 0 s u) ∧
  (∀ (m n : Reg) (s : State), Encodes (0b0110#4 ++ n ++ m ++ 0b1000#4) (.swapB m n) ∧
    Completes (.swapB m n) s fun u => u.r n = (s.r m).extractLsb' 16 16 ++ (s.r m).extractLsb' 0 8 ++ (s.r m).extractLsb' 8 8 ∧ OnlyWrites [n] 0 s u) ∧
  (∀ (m n : Reg) (s : State), Encodes (0b0110#4 ++ n ++ m ++ 0b1001#4) (.swapW m n) ∧
    Completes (.swapW m n) s fun u => u.r n = (s.r m).extractLsb' 0 16 ++ (s.r m).extractLsb' 16 16 ∧ OnlyWrites [n] 0 s u) ∧
  (∀ (m n : Reg) (s : State), Encodes (0b0010#4 ++ n ++ m ++ 0b1101#4) (.xtrct m n) ∧
    Completes (.xtrct m n) s fun u => u.r n = (s.r m).extractLsb' 0 16 ++ (s.r n).extractLsb' 16 16 ∧ OnlyWrites [n] 0 s u)

/-- MOV.W @(disp,PC),Rn loads the sign-extended word at PC + 4 + 2 * zext(d); MOV.L @(disp,PC),Rn the long
at (PC AND 0xFFFFFFFC) + 4 + 4 * zext(d), which is always aligned. Only R[n] and PC change.
[45_load_store.md R454, 45_load_store.md R455, 45_load_store.md R450] -/
def Obligations.PcRelativeLoads : Prop :=
  (∀ (d : BitVec 8) (n : Reg) (s : State), Encodes (0b1001#4 ++ n ++ d) (.movWPc d n) ∧
    LoadsFrom .word (s.pc + 4 + 2 * d.setWidth 32) n (.movWPc d n) s) ∧
  (∀ (d : BitVec 8) (n : Reg) (s : State), Encodes (0b1101#4 ++ n ++ d) (.movLPc d n) ∧
    Width.aligned .long ((s.pc &&& 0xFFFFFFFC) + 4 + 4 * d.setWidth 32) = true ∧
    LoadsFrom .long ((s.pc &&& 0xFFFFFFFC) + 4 + 4 * d.setWidth 32) n (.movLPc d n) s)

/-- Each store writes the low byte, word or long of its source register (R0 for the byte and word
displacement forms and the GBR forms) at its effective address modulo 2^32: R[n]; R[n] + size * zext(d);
R[n] + R[0]; GBR + size * zext(d). A misaligned or unanswered address ends it before any write. No byte
outside the stored ones and nothing else but PC changes. [R456, R457, R458, R468, R469, R470, R474, R475,
R476, R480, R481, R482] -/
def Obligations.StoresReachOnlyTheirBytes : Prop :=
  (∀ (m n : Reg) (s : State), Encodes (0b0010#4 ++ n ++ m ++ 0b0000#4) (.movBStore m n) ∧
    StoresAt .byte (s.r n) (s.r m) (.movBStore m n) s) ∧
  (∀ (m n : Reg) (s : State), Encodes (0b0010#4 ++ n ++ m ++ 0b0001#4) (.movWStore m n) ∧
    StoresAt .word (s.r n) (s.r m) (.movWStore m n) s) ∧
  (∀ (m n : Reg) (s : State), Encodes (0b0010#4 ++ n ++ m ++ 0b0010#4) (.movLStore m n) ∧
    StoresAt .long (s.r n) (s.r m) (.movLStore m n) s) ∧
  (∀ (d : BitVec 4) (n : Reg) (s : State), Encodes (0b1000#4 ++ 0b0000#4 ++ n ++ d) (.movBStoreDisp d n) ∧
    StoresAt .byte (s.r n + d.setWidth 32) (s.r 0) (.movBStoreDisp d n) s) ∧
  (∀ (d : BitVec 4) (n : Reg) (s : State), Encodes (0b1000#4 ++ 0b0001#4 ++ n ++ d) (.movWStoreDisp d n) ∧
    StoresAt .word (s.r n + 2 * d.setWidth 32) (s.r 0) (.movWStoreDisp d n) s) ∧
  (∀ (m : Reg) (d : BitVec 4) (n : Reg) (s : State), Encodes (0b0001#4 ++ n ++ m ++ d) (.movLStoreDisp m d n) ∧
    StoresAt .long (s.r n + 4 * d.setWidth 32) (s.r m) (.movLStoreDisp m d n) s) ∧
  (∀ (m n : Reg) (s : State), Encodes (0b0000#4 ++ n ++ m ++ 0b0100#4) (.movBStoreIdx m n) ∧
    StoresAt .byte (s.r n + s.r 0) (s.r m) (.movBStoreIdx m n) s) ∧
  (∀ (m n : Reg) (s : State), Encodes (0b0000#4 ++ n ++ m ++ 0b0101#4) (.movWStoreIdx m n) ∧
    StoresAt .word (s.r n + s.r 0) (s.r m) (.movWStoreIdx m n) s) ∧
  (∀ (m n : Reg) (s : State), Encodes (0b0000#4 ++ n ++ m ++ 0b0110#4) (.movLStoreIdx m n) ∧
    StoresAt .long (s.r n + s.r 0) (s.r m) (.movLStoreIdx m n) s) ∧
  (∀ (d : BitVec 8) (s : State), Encodes (0b1100#4 ++ 0b0000#4 ++ d) (.movBStoreGbr d) ∧
    StoresAt .byte (s.gbr + d.setWidth 32) (s.r 0) (.movBStoreGbr d) s) ∧
  (∀ (d : BitVec 8) (s : State), Encodes (0b1100#4 ++ 0b0001#4 ++ d) (.movWStoreGbr d) ∧
    StoresAt .word (s.gbr + 2 * d.setWidth 32) (s.r 0) (.movWStoreGbr d) s) ∧
  (∀ (d : BitVec 8) (s : State), Encodes (0b1100#4 ++ 0b0010#4 ++ d) (.movLStoreGbr d) ∧
    StoresAt .long (s.gbr + 4 * d.setWidth 32) (s.r 0) (.movLStoreGbr d) s)

/-- Each load writes its destination (R0 for the byte and word displacement forms and the GBR forms) with
the byte or word sign-extended, or the long, at its effective address modulo 2^32: R[m]; R[m] + size *
zext(d); R[m] + R[0]; GBR + size * zext(d). A misaligned or unanswered address ends it before any write.
Memory and everything else but PC is unchanged. [R459, R460, R461, R471, R472, R473, R477, R478, R479, R483,
R484, R485] -/
def Obligations.LoadsWriteOnlyTheDestination : Prop :=
  (∀ (m n : Reg) (s : State), Encodes (0b0110#4 ++ n ++ m ++ 0b0000#4) (.movBLoad m n) ∧
    LoadsFrom .byte (s.r m) n (.movBLoad m n) s) ∧
  (∀ (m n : Reg) (s : State), Encodes (0b0110#4 ++ n ++ m ++ 0b0001#4) (.movWLoad m n) ∧
    LoadsFrom .word (s.r m) n (.movWLoad m n) s) ∧
  (∀ (m n : Reg) (s : State), Encodes (0b0110#4 ++ n ++ m ++ 0b0010#4) (.movLLoad m n) ∧
    LoadsFrom .long (s.r m) n (.movLLoad m n) s) ∧
  (∀ (d : BitVec 4) (m : Reg) (s : State), Encodes (0b1000#4 ++ 0b0100#4 ++ m ++ d) (.movBLoadDisp d m) ∧
    LoadsFrom .byte (s.r m + d.setWidth 32) 0 (.movBLoadDisp d m) s) ∧
  (∀ (d : BitVec 4) (m : Reg) (s : State), Encodes (0b1000#4 ++ 0b0101#4 ++ m ++ d) (.movWLoadDisp d m) ∧
    LoadsFrom .word (s.r m + 2 * d.setWidth 32) 0 (.movWLoadDisp d m) s) ∧
  (∀ (d : BitVec 4) (m n : Reg) (s : State), Encodes (0b0101#4 ++ n ++ m ++ d) (.movLLoadDisp d m n) ∧
    LoadsFrom .long (s.r m + 4 * d.setWidth 32) n (.movLLoadDisp d m n) s) ∧
  (∀ (m n : Reg) (s : State), Encodes (0b0000#4 ++ n ++ m ++ 0b1100#4) (.movBLoadIdx m n) ∧
    LoadsFrom .byte (s.r m + s.r 0) n (.movBLoadIdx m n) s) ∧
  (∀ (m n : Reg) (s : State), Encodes (0b0000#4 ++ n ++ m ++ 0b1101#4) (.movWLoadIdx m n) ∧
    LoadsFrom .word (s.r m + s.r 0) n (.movWLoadIdx m n) s) ∧
  (∀ (m n : Reg) (s : State), Encodes (0b0000#4 ++ n ++ m ++ 0b1110#4) (.movLLoadIdx m n) ∧
    LoadsFrom .long (s.r m + s.r 0) n (.movLLoadIdx m n) s) ∧
  (∀ (d : BitVec 8) (s : State), Encodes (0b1100#4 ++ 0b0100#4 ++ d) (.movBLoadGbr d) ∧
    LoadsFrom .byte (s.gbr + d.setWidth 32) 0 (.movBLoadGbr d) s) ∧
  (∀ (d : BitVec 8) (s : State), Encodes (0b1100#4 ++ 0b0101#4 ++ d) (.movWLoadGbr d) ∧
    LoadsFrom .word (s.gbr + 2 * d.setWidth 32) 0 (.movWLoadGbr d) s) ∧
  (∀ (d : BitVec 8) (s : State), Encodes (0b1100#4 ++ 0b0110#4 ++ d) (.movLLoadGbr d) ∧
    LoadsFrom .long (s.gbr + 4 * d.setWidth 32) 0 (.movLLoadGbr d) s)

/-- MOV.B, MOV.W, MOV.L Rm,@-Rn store the value of R[m] before the decrement (m = n included) at R[n] -
width, and R[n] becomes that address. A misaligned or unanswered address ends it before any write. Nothing
else but PC changes. MOV.B, MOV.W, MOV.L @Rm+,Rn write R[n] with the value loaded from R[m] and, when m
differs from n, add the width to R[m]. A misaligned or unanswered address ends it before any write. Nothing
else but PC changes. [R462, R463, R464, R465, R466, R467] -/
def Obligations.PreDecrementStoresAndPostIncrementLoads : Prop :=
  (∀ (m n : Reg) (s : State), Encodes (0b0010#4 ++ n ++ m ++ 0b0100#4) (.movBStorePre m n) ∧
    Pushes .byte n (s.r m) (.movBStorePre m n) s) ∧
  (∀ (m n : Reg) (s : State), Encodes (0b0010#4 ++ n ++ m ++ 0b0101#4) (.movWStorePre m n) ∧
    Pushes .word n (s.r m) (.movWStorePre m n) s) ∧
  (∀ (m n : Reg) (s : State), Encodes (0b0010#4 ++ n ++ m ++ 0b0110#4) (.movLStorePre m n) ∧
    Pushes .long n (s.r m) (.movLStorePre m n) s) ∧
  (∀ (m n : Reg) (s : State), Encodes (0b0110#4 ++ n ++ m ++ 0b0100#4) (.movBLoadPost m n) ∧
    Guarded .read .byte (s.r m) (.movBLoadPost m n) s ∧
    (Accessible s .read .byte (s.r m) → Completes (.movBLoadPost m n) s fun u => u.r n = loadedValue s .byte (s.r m) ∧
      (m ≠ n → u.r m = s.r m + 1) ∧ OnlyWrites [m, n] 0 s u)) ∧
  (∀ (m n : Reg) (s : State), Encodes (0b0110#4 ++ n ++ m ++ 0b0101#4) (.movWLoadPost m n) ∧
    Guarded .read .word (s.r m) (.movWLoadPost m n) s ∧
    (Accessible s .read .word (s.r m) → Completes (.movWLoadPost m n) s fun u => u.r n = loadedValue s .word (s.r m) ∧
      (m ≠ n → u.r m = s.r m + 2) ∧ OnlyWrites [m, n] 0 s u)) ∧
  (∀ (m n : Reg) (s : State), Encodes (0b0110#4 ++ n ++ m ++ 0b0110#4) (.movLLoadPost m n) ∧
    Guarded .read .long (s.r m) (.movLLoadPost m n) s ∧
    (Accessible s .read .long (s.r m) → Completes (.movLLoadPost m n) s fun u => u.r n = loadedValue s .long (s.r m) ∧
      (m ≠ n → u.r m = s.r m + 4) ∧ OnlyWrites [m, n] 0 s u))

/-- MOVCA.L R0,@Rn stores R[0] at R[n]. MOVLI.L @Rm,R0 loads the long to R[0] and sets LDST. MOVCO.L R0,@Rn:
with LDST = 1 it stores R[0] at R[n] (the address checked only then), sets T to 1 and clears LDST; with LDST
= 0 it stores nothing and clears T. MOVUA.L @Rm,R0 writes R[0] with the four bytes at R[m], in byte order
ENDIAN, at any alignment; MOVUA.L @Rm+,R0 also adds 4 to R[m] when m is not 0. Memory and everything else
but PC is unchanged; an address the port does not answer leaves the engine without a step. [R491, R492,
R493, R494, R495] -/
def Obligations.LinkedUnalignedAndCacheAllocatingTransfers : Prop :=
  (∀ (n : Reg) (s : State), Encodes (0b0000#4 ++ n ++ 0b1100#4 ++ 0b0011#4) (.movcaL n) ∧
    StoresAt .long (s.r n) (s.r 0) (.movcaL n) s) ∧
  (∀ (m : Reg) (s : State), Encodes (0b0000#4 ++ m ++ 0b0110#4 ++ 0b0011#4) (.movliL m) ∧
    Guarded .read .long (s.r m) (.movliL m) s ∧
    (Accessible s .read .long (s.r m) → Completes (.movliL m) s fun u => u.r 0 = s.memRead .long (s.r m) ∧ u.ldst = true ∧
      OnlyWrites [0] 0 { s with ldst := u.ldst } u)) ∧
  (∀ (n : Reg) (s : State), Encodes (0b0000#4 ++ n ++ 0b0111#4 ++ 0b0011#4) (.movcoL n) ∧
    (s.ldst = true → Guarded .write .long (s.r n) (.movcoL n) s ∧
      (Accessible s .write .long (s.r n) → Completes (.movcoL n) s fun u =>
        (Keeps s (s.r n) 4 → Holds u .long (s.r n) (s.r 0)) ∧ u.t = true ∧ u.ldst = false ∧
        OnlyStores .long (s.r n) [] tBit { s with ldst := u.ldst } u)) ∧
    (s.ldst = false → Completes (.movcoL n) s fun u => u.t = false ∧ OnlyWrites [] tBit s u)) ∧
  (∀ (m : Reg) (s : State), Encodes (0b0100#4 ++ m ++ 0b1010#4 ++ 0b1001#4) (.movuaL m) ∧
    let a := s.r m
    (s.answers .read a 4 = false → exec (.movuaL m) s = .fault .portNoAnswer) ∧
    (s.answers .read a 4 = true → Completes (.movuaL m) s fun u =>
      (s.params.endian = .little →
        u.r 0 = s.byteAt (a + 3) ++ s.byteAt (a + 2) ++ s.byteAt (a + 1) ++ s.byteAt a) ∧
      (s.params.endian = .big →
        u.r 0 = s.byteAt a ++ s.byteAt (a + 1) ++ s.byteAt (a + 2) ++ s.byteAt (a + 3)) ∧ OnlyWrites [0] 0 s u)) ∧
  (∀ (m : Reg) (s : State), Encodes (0b0100#4 ++ m ++ 0b1110#4 ++ 0b1001#4) (.movuaLPost m) ∧
    let a := s.r m
    (s.answers .read a 4 = false → exec (.movuaLPost m) s = .fault .portNoAnswer) ∧
    (s.answers .read a 4 = true → Completes (.movuaLPost m) s fun u =>
      (s.params.endian = .little →
        u.r 0 = s.byteAt (a + 3) ++ s.byteAt (a + 2) ++ s.byteAt (a + 1) ++ s.byteAt a) ∧
      (s.params.endian = .big →
        u.r 0 = s.byteAt a ++ s.byteAt (a + 1) ++ s.byteAt (a + 2) ++ s.byteAt (a + 3)) ∧ 
      (m ≠ 0 → u.r m = s.r m + 4) ∧ OnlyWrites [m, 0] 0 s u))

/-- Where permitted, LDC Rm,SR writes SR = R[m] AND 0x700083F3; LDC.L @Rm+,SR pops the long at R[m], adds 4
to R[m] (as the old SR names it) and writes SR with the long AND the mask. Nothing else but PC changes: the
register names then reach the banks the new SR selects. In user mode with PRIV_CHECK = on, outside a slot,
they raise GeneralIllegalInstruction; in a delay slot they are in SlotIllegalSet. [R521, R529] -/
def Obligations.LoadsOfSrStoreTheMaskedValue : Prop :=
  (∀ (m : Reg) (s : State), Encodes (0b0100#4 ++ m ++ 0b0000#4 ++ 0b1110#4) (.ldcSr m) ∧
    (Permitted s → Completes (.ldcSr m) s fun u => u.sr = s.r m &&& 0x700083F3 ∧ OnlyWrites [] 0 { s with sr := u.sr } u) ∧
    (¬Permitted s → s.ds = .normal → exec (.ldcSr m) s = takeException .generalIllegalInstruction s) ∧
    SlotIllegalSet (.ldcSr m)) ∧
  (∀ (m : Reg) (s : State), Encodes (0b0100#4 ++ m ++ 0b0000#4 ++ 0b0111#4) (.ldcLSr m) ∧
    (Permitted s → Pops m (.ldcLSr m) s fun v u => u.sr = v &&& 0x700083F3 ∧
      OnlyWrites [] 0 { s.setR m (s.r m + 4) with sr := u.sr } u) ∧
    (¬Permitted s → s.ds = .normal → exec (.ldcLSr m) s = takeException .generalIllegalInstruction s) ∧
    SlotIllegalSet (.ldcLSr m))

/-- Where permitted (GBR always), LDC writes all 32 bits of R[m] to the register; LDC Rm,Rn_BANK writes bank
register b. Nothing else but PC changes. In user mode with PRIV_CHECK = on, outside a slot, the privileged
ones raise GeneralIllegalInstruction. [R522, R523, R524, R525, R526, R527, R528] -/
def Obligations.LoadsOfControlRegistersFromARegister : Prop :=
  (∀ (m : Reg) (s : State), Encodes (0b0100#4 ++ m ++ 0b0001#4 ++ 0b1110#4) (.ldcGbr m) ∧
    Completes (.ldcGbr m) s fun u => u.gbr = s.r m ∧ OnlyWrites [] 0 { s with gbr := u.gbr } u) ∧
  (∀ (m : Reg) (s : State), Encodes (0b0100#4 ++ m ++ 0b0010#4 ++ 0b1110#4) (.ldcVbr m) ∧
    (Permitted s → Completes (.ldcVbr m) s fun u => u.vbr = s.r m ∧ OnlyWrites [] 0 { s with vbr := u.vbr } u)) ∧
  (∀ (m : Reg) (s : State), Encodes (0b0100#4 ++ m ++ 0b0011#4 ++ 0b1010#4) (.ldcSgr m) ∧
    (Permitted s → Completes (.ldcSgr m) s fun u => u.sgr = s.r m ∧ OnlyWrites [] 0 { s with sgr := u.sgr } u)) ∧
  (∀ (m : Reg) (s : State), Encodes (0b0100#4 ++ m ++ 0b0011#4 ++ 0b1110#4) (.ldcSsr m) ∧
    (Permitted s → Completes (.ldcSsr m) s fun u => u.ssr = s.r m ∧ OnlyWrites [] 0 { s with ssr := u.ssr } u)) ∧
  (∀ (m : Reg) (s : State), Encodes (0b0100#4 ++ m ++ 0b0100#4 ++ 0b1110#4) (.ldcSpc m) ∧
    (Permitted s → Completes (.ldcSpc m) s fun u => u.spc = s.r m ∧ OnlyWrites [] 0 { s with spc := u.spc } u)) ∧
  (∀ (m : Reg) (s : State), Encodes (0b0100#4 ++ m ++ 0b1111#4 ++ 0b1010#4) (.ldcDbr m) ∧
    (Permitted s → Completes (.ldcDbr m) s fun u => u.dbr = s.r m ∧ OnlyWrites [] 0 { s with dbr := u.dbr } u)) ∧
  (∀ (m : Reg) (b : BankReg) (s : State), Encodes (0b0100#4 ++ m ++ 0b1#1 ++ b ++ 0b1110#4) (.ldcBank m b) ∧
    (Permitted s → Completes (.ldcBank m b) s fun u => u.rBank b = s.r m ∧
      (∀ c, c ≠ b → u.rBank c = s.rBank c) ∧ SameRegs [] s u ∧ SameSystem 0 s u ∧ SameMemory s u ∧
      u.pc = s.pc + 2)) ∧
  (∀ (m : Reg) (b : BankReg) (i : Instr) (s : State),
    i ∈ [.ldcVbr m, .ldcSgr m, .ldcSsr m, .ldcSpc m, .ldcDbr m, .ldcBank m b] → ¬Permitted s → s.ds = .normal →
    exec i s = takeException .generalIllegalInstruction s)

/-- Where permitted (GBR always), LDC.L reads the long at R[m], adds 4 to R[m] and writes the long to the
register or bank register. A misaligned or unanswered address ends it before any write. Nothing else but PC
changes. In user mode with PRIV_CHECK = on, outside a slot, the privileged ones raise
GeneralIllegalInstruction before the access. [R530, R531, R532, R533, R534, R535, R536] -/
def Obligations.PopsIntoControlRegisters : Prop :=
  (∀ (m : Reg) (s : State), Encodes (0b0100#4 ++ m ++ 0b0001#4 ++ 0b0111#4) (.ldcLGbr m) ∧
    Pops m (.ldcLGbr m) s fun v u =>
      u.gbr = v ∧ u.r m = s.r m + 4 ∧ OnlyWrites [m] 0 { s with gbr := u.gbr } u) ∧
  (∀ (m : Reg) (s : State), Encodes (0b0100#4 ++ m ++ 0b0010#4 ++ 0b0111#4) (.ldcLVbr m) ∧
    (Permitted s → Pops m (.ldcLVbr m) s fun v u =>
      u.vbr = v ∧ u.r m = s.r m + 4 ∧ OnlyWrites [m] 0 { s with vbr := u.vbr } u)) ∧
  (∀ (m : Reg) (s : State), Encodes (0b0100#4 ++ m ++ 0b0011#4 ++ 0b0110#4) (.ldcLSgr m) ∧
    (Permitted s → Pops m (.ldcLSgr m) s fun v u =>
      u.sgr = v ∧ u.r m = s.r m + 4 ∧ OnlyWrites [m] 0 { s with sgr := u.sgr } u)) ∧
  (∀ (m : Reg) (s : State), Encodes (0b0100#4 ++ m ++ 0b0011#4 ++ 0b0111#4) (.ldcLSsr m) ∧
    (Permitted s → Pops m (.ldcLSsr m) s fun v u =>
      u.ssr = v ∧ u.r m = s.r m + 4 ∧ OnlyWrites [m] 0 { s with ssr := u.ssr } u)) ∧
  (∀ (m : Reg) (s : State), Encodes (0b0100#4 ++ m ++ 0b0100#4 ++ 0b0111#4) (.ldcLSpc m) ∧
    (Permitted s → Pops m (.ldcLSpc m) s fun v u =>
      u.spc = v ∧ u.r m = s.r m + 4 ∧ OnlyWrites [m] 0 { s with spc := u.spc } u)) ∧
  (∀ (m : Reg) (s : State), Encodes (0b0100#4 ++ m ++ 0b1111#4 ++ 0b0110#4) (.ldcLDbr m) ∧
    (Permitted s → Pops m (.ldcLDbr m) s fun v u =>
      u.dbr = v ∧ u.r m = s.r m + 4 ∧ OnlyWrites [m] 0 { s with dbr := u.dbr } u)) ∧
  (∀ (m : Reg) (b : BankReg) (s : State), Encodes (0b0100#4 ++ m ++ 0b1#1 ++ b ++ 0b0111#4) (.ldcLBank m b) ∧
    (Permitted s → Pops m (.ldcLBank m b) s fun v u => u.r m = s.r m + 4 ∧ u.rBank b = v ∧
      (∀ c, c ≠ b → u.rBank c = s.rBank c) ∧ SameRegs [m] s u ∧ SameSystem 0 s u ∧ SameMemory s u ∧
      u.pc = s.pc + 2)) ∧
  (∀ (m : Reg) (b : BankReg) (i : Instr) (s : State),
    i ∈ [.ldcLVbr m, .ldcLSgr m, .ldcLSsr m, .ldcLSpc m, .ldcLDbr m, .ldcLBank m b] → ¬Permitted s →
    s.ds = .normal → exec i s = takeException .generalIllegalInstruction s)

/-- LDS writes R[m] to MACH, MACL or PR; LDS.L writes the long at R[m] and adds 4 to R[m]. A write of one
half of MAC leaves the other. A misaligned or unanswered address ends LDS.L before any write. Nothing else
but PC changes. [R537, R538, R539, R540, R541, R542] -/
def Obligations.LoadsOfSystemRegisters : Prop :=
  (∀ (m : Reg) (s : State), Encodes (0b0100#4 ++ m ++ 0b0000#4 ++ 0b1010#4) (.ldsMach m) ∧
    Completes (.ldsMach m) s fun u => u.mach = s.r m ∧ u.macl = s.macl ∧ OnlyWrites [] 0 { s with mac := u.mac } u) ∧
  (∀ (m : Reg) (s : State), Encodes (0b0100#4 ++ m ++ 0b0001#4 ++ 0b1010#4) (.ldsMacl m) ∧
    Completes (.ldsMacl m) s fun u => u.macl = s.r m ∧ u.mach = s.mach ∧ OnlyWrites [] 0 { s with mac := u.mac } u) ∧
  (∀ (m : Reg) (s : State), Encodes (0b0100#4 ++ m ++ 0b0010#4 ++ 0b1010#4) (.ldsPr m) ∧
    Completes (.ldsPr m) s fun u => u.pr = s.r m ∧ OnlyWrites [] 0 { s with pr := u.pr } u) ∧
  (∀ (m : Reg) (s : State), Encodes (0b0100#4 ++ m ++ 0b0000#4 ++ 0b0110#4) (.ldsLMach m) ∧
    Pops m (.ldsLMach m) s fun v u => u.mach = v ∧ u.macl = s.macl ∧ u.r m = s.r m + 4 ∧
      OnlyWrites [m] 0 { s with mac := u.mac } u) ∧
  (∀ (m : Reg) (s : State), Encodes (0b0100#4 ++ m ++ 0b0001#4 ++ 0b0110#4) (.ldsLMacl m) ∧
    Pops m (.ldsLMacl m) s fun v u => u.macl = v ∧ u.mach = s.mach ∧ u.r m = s.r m + 4 ∧
      OnlyWrites [m] 0 { s with mac := u.mac } u) ∧
  (∀ (m : Reg) (s : State), Encodes (0b0100#4 ++ m ++ 0b0010#4 ++ 0b0110#4) (.ldsLPr m) ∧
    Pops m (.ldsLPr m) s fun v u => u.pr = v ∧ u.r m = s.r m + 4 ∧ OnlyWrites [m] 0 { s with pr := u.pr } u)

/-- Where permitted (GBR always), STC writes the whole control register, or bank register b, to R[n];
nothing else but PC changes. In user mode with PRIV_CHECK = on, outside a slot, the privileged ones raise
GeneralIllegalInstruction. [R543, R544, R545, R546, R547, R548, R549, R550] -/
def Obligations.StoresOfControlRegistersToARegister : Prop :=
  (∀ (n : Reg) (s : State), Encodes (0b0000#4 ++ n ++ 0b0000#4 ++ 0b0010#4) (.stcSr n) ∧
    (Permitted s → Completes (.stcSr n) s fun u => u.r n = s.sr ∧ OnlyWrites [n] 0 s u)) ∧
  (∀ (n : Reg) (s : State), Encodes (0b0000#4 ++ n ++ 0b0001#4 ++ 0b0010#4) (.stcGbr n) ∧
    Completes (.stcGbr n) s fun u => u.r n = s.gbr ∧ OnlyWrites [n] 0 s u) ∧
  (∀ (n : Reg) (s : State), Encodes (0b0000#4 ++ n ++ 0b0010#4 ++ 0b0010#4) (.stcVbr n) ∧
    (Permitted s → Completes (.stcVbr n) s fun u => u.r n = s.vbr ∧ OnlyWrites [n] 0 s u)) ∧
  (∀ (n : Reg) (s : State), Encodes (0b0000#4 ++ n ++ 0b0011#4 ++ 0b1010#4) (.stcSgr n) ∧
    (Permitted s → Completes (.stcSgr n) s fun u => u.r n = s.sgr ∧ OnlyWrites [n] 0 s u)) ∧
  (∀ (n : Reg) (s : State), Encodes (0b0000#4 ++ n ++ 0b0011#4 ++ 0b0010#4) (.stcSsr n) ∧
    (Permitted s → Completes (.stcSsr n) s fun u => u.r n = s.ssr ∧ OnlyWrites [n] 0 s u)) ∧
  (∀ (n : Reg) (s : State), Encodes (0b0000#4 ++ n ++ 0b0100#4 ++ 0b0010#4) (.stcSpc n) ∧
    (Permitted s → Completes (.stcSpc n) s fun u => u.r n = s.spc ∧ OnlyWrites [n] 0 s u)) ∧
  (∀ (n : Reg) (s : State), Encodes (0b0000#4 ++ n ++ 0b1111#4 ++ 0b1010#4) (.stcDbr n) ∧
    (Permitted s → Completes (.stcDbr n) s fun u => u.r n = s.dbr ∧ OnlyWrites [n] 0 s u)) ∧
  (∀ (b : BankReg) (n : Reg) (s : State), Encodes (0b0000#4 ++ n ++ 0b1#1 ++ b ++ 0b0010#4) (.stcBank b n) ∧
    (Permitted s → Completes (.stcBank b n) s fun u => u.r n = s.rBank b ∧ OnlyWrites [n] 0 s u)) ∧
  (∀ (n : Reg) (b : BankReg) (i : Instr) (s : State),
    i ∈ [.stcSr n, .stcVbr n, .stcSgr n, .stcSsr n, .stcSpc n, .stcDbr n, .stcBank b n] → ¬Permitted s →
    s.ds = .normal → exec i s = takeException .generalIllegalInstruction s)

/-- Where permitted (GBR always), STC.L stores the control register, or bank register b, at R[n] - 4, which
R[n] becomes. A misaligned or unanswered address ends it before any write. Nothing else but PC changes. In
user mode with PRIV_CHECK = on, outside a slot, the privileged ones raise GeneralIllegalInstruction before
the access. [R551, R552, R553, R554, R555, R556, R557, R558] -/
def Obligations.PushesOfControlRegisters : Prop :=
  (∀ (n : Reg) (s : State), Encodes (0b0100#4 ++ n ++ 0b0000#4 ++ 0b0011#4) (.stcLSr n) ∧
    (Permitted s → Pushes .long n s.sr (.stcLSr n) s)) ∧
  (∀ (n : Reg) (s : State), Encodes (0b0100#4 ++ n ++ 0b0001#4 ++ 0b0011#4) (.stcLGbr n) ∧
    Pushes .long n s.gbr (.stcLGbr n) s) ∧
  (∀ (n : Reg) (s : State), Encodes (0b0100#4 ++ n ++ 0b0010#4 ++ 0b0011#4) (.stcLVbr n) ∧
    (Permitted s → Pushes .long n s.vbr (.stcLVbr n) s)) ∧
  (∀ (n : Reg) (s : State), Encodes (0b0100#4 ++ n ++ 0b0011#4 ++ 0b0010#4) (.stcLSgr n) ∧
    (Permitted s → Pushes .long n s.sgr (.stcLSgr n) s)) ∧
  (∀ (n : Reg) (s : State), Encodes (0b0100#4 ++ n ++ 0b0011#4 ++ 0b0011#4) (.stcLSsr n) ∧
    (Permitted s → Pushes .long n s.ssr (.stcLSsr n) s)) ∧
  (∀ (n : Reg) (s : State), Encodes (0b0100#4 ++ n ++ 0b0100#4 ++ 0b0011#4) (.stcLSpc n) ∧
    (Permitted s → Pushes .long n s.spc (.stcLSpc n) s)) ∧
  (∀ (n : Reg) (s : State), Encodes (0b0100#4 ++ n ++ 0b1111#4 ++ 0b0010#4) (.stcLDbr n) ∧
    (Permitted s → Pushes .long n s.dbr (.stcLDbr n) s)) ∧
  (∀ (b : BankReg) (n : Reg) (s : State), Encodes (0b0100#4 ++ n ++ 0b1#1 ++ b ++ 0b0011#4) (.stcLBank b n) ∧
    (Permitted s → Pushes .long n (s.rBank b) (.stcLBank b n) s)) ∧
  (∀ (n : Reg) (b : BankReg) (i : Instr) (s : State),
    i ∈ [.stcLSr n, .stcLVbr n, .stcLSgr n, .stcLSsr n, .stcLSpc n, .stcLDbr n, .stcLBank b n] → ¬Permitted s →
    s.ds = .normal → exec i s = takeException .generalIllegalInstruction s)

/-- STS writes MACH, MACL or PR to R[n]; STS.L stores it at R[n] - 4, which R[n] becomes. A misaligned or
unanswered address ends STS.L before any write. Nothing else but PC changes. [R559, R560, R561, R562, R563,
R564] -/
def Obligations.StoresAndPushesOfSystemRegisters : Prop :=
  (∀ (n : Reg) (s : State), Encodes (0b0000#4 ++ n ++ 0b0000#4 ++ 0b1010#4) (.stsMach n) ∧
    Completes (.stsMach n) s fun u => u.r n = s.mach ∧ OnlyWrites [n] 0 s u) ∧
  (∀ (n : Reg) (s : State), Encodes (0b0000#4 ++ n ++ 0b0001#4 ++ 0b1010#4) (.stsMacl n) ∧
    Completes (.stsMacl n) s fun u => u.r n = s.macl ∧ OnlyWrites [n] 0 s u) ∧
  (∀ (n : Reg) (s : State), Encodes (0b0000#4 ++ n ++ 0b0010#4 ++ 0b1010#4) (.stsPr n) ∧
    Completes (.stsPr n) s fun u => u.r n = s.pr ∧ OnlyWrites [n] 0 s u) ∧
  (∀ (n : Reg) (s : State), Encodes (0b0100#4 ++ n ++ 0b0000#4 ++ 0b0010#4) (.stsLMach n) ∧
    Pushes .long n s.mach (.stsLMach n) s) ∧
  (∀ (n : Reg) (s : State), Encodes (0b0100#4 ++ n ++ 0b0001#4 ++ 0b0010#4) (.stsLMacl n) ∧
    Pushes .long n s.macl (.stsLMacl n) s) ∧
  (∀ (n : Reg) (s : State), Encodes (0b0100#4 ++ n ++ 0b0010#4 ++ 0b0010#4) (.stsLPr n) ∧
    Pushes .long n s.pr (.stsLPr n) s)

/-- Where permitted, LDC Rm,X then STC X,Rn gives R[n] the old R[m] for X in GBR, VBR, SGR, SSR, SPC, DBR;
for SR, with PRIV_CHECK = off, it gives that value AND SR_MASK. STS.L X,@-R15 then LDS.L @R15+,X restores X
and R15 for MACH, MACL and PR, with R15 - 4 a long-aligned address in RAM. [46_control_transfer.md R565] -/
def Obligations.ControlRegisterRoundTrips : Prop :=
  (∀ (m n : Reg) (s : State), Permitted s →
    Completes (.ldcGbr m) s (fun u => Completes (.stcGbr n) u fun v => v.r n = s.r m) ∧
    Completes (.ldcVbr m) s (fun u => Completes (.stcVbr n) u fun v => v.r n = s.r m) ∧
    Completes (.ldcSgr m) s (fun u => Completes (.stcSgr n) u fun v => v.r n = s.r m) ∧
    Completes (.ldcSsr m) s (fun u => Completes (.stcSsr n) u fun v => v.r n = s.r m) ∧
    Completes (.ldcSpc m) s (fun u => Completes (.stcSpc n) u fun v => v.r n = s.r m) ∧
    Completes (.ldcDbr m) s (fun u => Completes (.stcDbr n) u fun v => v.r n = s.r m)) ∧
  (∀ (m n : Reg) (s : State), s.params.privCheck = .off →
    Completes (.ldcSr m) s fun u => Completes (.stcSr n) u fun v => v.r n = s.r m &&& 0x700083F3) ∧
  (∀ s : State, Keeps s (s.r 15 - 4) 4 → Width.aligned .long (s.r 15 - 4) = true →
    Completes (.stsLMach 15) s (fun u => Completes (.ldsLMach 15) u fun v => v.mac = s.mac ∧ v.r 15 = s.r 15) ∧
    Completes (.stsLMacl 15) s (fun u => Completes (.ldsLMacl 15) u fun v => v.mac = s.mac ∧ v.r 15 = s.r 15) ∧
    Completes (.stsLPr 15) s (fun u => Completes (.ldsLPr 15) u fun v => v.pr = s.pr ∧ v.r 15 = s.r 15))

/-- CLRT and SETT write T = 0 and 1, CLRS and SETS write S = 0 and 1; no other SR bit and nothing else but
PC changes. [R570, R571, R572, R573] -/
def Obligations.FlagInstructionsWriteOneFlag : Prop :=
  (∀ (s : State), Encodes (0b0000#4 ++ 0b0000#4 ++ 0b0000#4 ++ 0b1000#4) .clrt ∧
    Completes .clrt s fun u => u.t = false ∧ OnlyWrites [] tBit s u) ∧
  (∀ (s : State), Encodes (0b0000#4 ++ 0b0000#4 ++ 0b0001#4 ++ 0b1000#4) .sett ∧
    Completes .sett s fun u => u.t = true ∧ OnlyWrites [] tBit s u) ∧
  (∀ (s : State), Encodes (0b0000#4 ++ 0b0000#4 ++ 0b0100#4 ++ 0b1000#4) .clrs ∧
    Completes .clrs s fun u => u.s = false ∧ OnlyWrites [] sBit s u) ∧
  (∀ (s : State), Encodes (0b0000#4 ++ 0b0000#4 ++ 0b0101#4 ++ 0b1000#4) .sets ∧
    Completes .sets s fun u => u.s = true ∧ OnlyWrites [] sBit s u)

/-- Each of these advances PC by 2 and changes nothing else, whatever its register operand holds (LDTLB
where permitted). [R574, R575, R576, R578, R579, R580, R581, R583] -/
def Obligations.NoOperationsOnlyAdvancePc : Prop :=
  (∀ (n : Reg) (s : State), Encodes (0b0000#4 ++ n ++ 0b1110#4 ++ 0b0011#4) (.icbi n) ∧
    Completes (.icbi n) s fun u => OnlyWrites [] 0 s u) ∧
  (∀ (n : Reg) (s : State), Encodes (0b0000#4 ++ n ++ 0b1000#4 ++ 0b0011#4) (.pref n) ∧
    Completes (.pref n) s fun u => OnlyWrites [] 0 s u) ∧
  (∀ (n : Reg) (s : State), Encodes (0b0000#4 ++ n ++ 0b1101#4 ++ 0b0011#4) (.prefi n) ∧
    Completes (.prefi n) s fun u => OnlyWrites [] 0 s u) ∧
  (∀ (n : Reg) (s : State), Encodes (0b0000#4 ++ n ++ 0b1010#4 ++ 0b0011#4) (.ocbp n) ∧
    Completes (.ocbp n) s fun u => OnlyWrites [] 0 s u) ∧
  (∀ (n : Reg) (s : State), Encodes (0b0000#4 ++ n ++ 0b1011#4 ++ 0b0011#4) (.ocbwb n) ∧
    Completes (.ocbwb n) s fun u => OnlyWrites [] 0 s u) ∧
  (∀ (s : State), Encodes (0b0000#4 ++ 0b0000#4 ++ 0b0011#4 ++ 0b1000#4) .ldtlb ∧
    (Permitted s → Completes .ldtlb s fun u => OnlyWrites [] 0 s u)) ∧
  (∀ (s : State), Encodes (0b0000#4 ++ 0b0000#4 ++ 0b0000#4 ++ 0b1001#4) .nop ∧
    Completes .nop s fun u => OnlyWrites [] 0 s u) ∧
  (∀ (s : State), Encodes (0b0000#4 ++ 0b0000#4 ++ 0b1010#4 ++ 0b1011#4) .synco ∧
    Completes .synco s fun u => OnlyWrites [] 0 s u)

/-- With OCBI_MODEL = havoc and the line's writes answered by the port, each byte in RAM of the 32 from R[n]
AND 0xFFFFFFE0 on becomes the byte drawn for it (a free value, log 6: the statement holds whatever is
drawn), and no other byte and nothing else but PC and the draw counter changes. A line the port does not
answer leaves the engine without a step. With OCBI_MODEL = noop only PC advances. How the draws are numbered
is the model's choice (log 6). [47_system.md R577, 20_memory.md R92, log 4, log 6] -/
def Obligations.OcbiDrawsItsLineOrDoesNothing : Prop :=
  (∀ (n : Reg) (s : State), Encodes (0b0000#4 ++ n ++ 0b1001#4 ++ 0b0011#4) (.ocbi n) ∧
    let base := s.r n &&& 0xFFFFFFE0
    (s.params.ocbiModel = .havoc → s.answers .write base 32 = true → Completes (.ocbi n) s fun u =>
      (Memory.wf s.mem = true → ∀ x : Word, (x - base).toNat < 32 → s.isRam x = true →
        u.byteAt x = Config.drawByte s.draws x) ∧
      u.pc = s.pc + 2 ∧ SameRegs [] s u ∧ SameBanks s u ∧ SameSystem 0 { s with draws := u.draws } u ∧
      SameMemoryBut base 32 s u) ∧
    (s.params.ocbiModel = .havoc → s.answers .write base 32 = false → exec (.ocbi n) s = .fault .portNoAnswer) ∧
    (s.params.ocbiModel = .noop → Completes (.ocbi n) s fun u => OnlyWrites [] 0 s u))

/-- Outside a slot with TRAP_ENTRY = reference and BL = 0, TRAPA takes the trap: SPC = PC + 2, EXPEVT =
0x160, TRA = zext(i) << 2, the entry of R622 at VBR + 0x100, in either mode; with BL = 1 it faults
BlockedException. With TRAP_ENTRY = external it writes no architectural state and reports the trap with its
immediate and code. It is in SlotIllegalSet. The report field is the model's form of the outcome Exception
(log 12). [47_system.md R582, 60_exceptions.md R621, 60_exceptions.md R622, 60_exceptions.md R625,
44_branch_delay_slot.md R403, log 12] -/
def Obligations.TrapTakesTheTrapException : Prop :=
  (∀ (i : BitVec 8) (s : State), Encodes (0b1100#4 ++ 0b0011#4 ++ i) (.trapa i) ∧
    (s.ds = .normal → s.params.trapEntry = .reference → s.bl = false → Completes (.trapa i) s fun u =>
      Entered (s.pc + 2) (s.vbr + 0x100) s u ∧ u.expevt = 0x160 ∧ u.tra = i.setWidth 32 <<< 2 ∧
      u.intevt = s.intevt ∧ u.tea = s.tea ∧ u.sleeping = s.sleeping) ∧
    (s.ds = .normal → s.params.trapEntry = .reference → s.bl = true →
      exec (.trapa i) s = .fault .blockedException) ∧
    (s.ds = .normal → s.params.trapEntry = .external →
      exec (.trapa i) s = .next { s with report := some ⟨.trap i, 0x160, s.pc + 2⟩ }) ∧
    SlotIllegalSet (.trapa i))

/-- Where permitted, SLEEP sets PC to PC + 2 and Sleeping to 1 and changes nothing else. With Sleeping = 1
(and no mark) the engine's step leaves the state as it is (the model's form of "takes no step", log 9). Of
the platform's events only a reset and an accepted interrupt clear Sleeping. SLEEP is in SlotIllegalSet, and
in user mode with PRIV_CHECK = on it raises GeneralIllegalInstruction outside a slot. The events are the
model's form of the platform's inputs (log 10). [47_system.md R586, 60_exceptions.md R627,
70_reset_and_hazards.md R681, log 9, log 10, log 20] -/
def Obligations.SleepHoldsTheEngine : Prop :=
  (∀ (s : State), Encodes (0b0000#4 ++ 0b0000#4 ++ 0b0001#4 ++ 0b1011#4) .sleep ∧
    (Permitted s → Completes .sleep s fun u => u.sleeping = true ∧ OnlyWrites [] 0 { s with sleeping := u.sleeping } u) ∧
    (¬Permitted s → s.ds = .normal → exec .sleep s = takeException .generalIllegalInstruction s) ∧
    SlotIllegalSet .sleep) ∧
  (∀ s : State, s.events = [] → s.mark = none → s.ds = .normal → s.sleeping = true → step s = .next s) ∧
  (∀ (s u : State) (e : Event) (rest : List Event), s.ds = .normal → s.sleeping = true →
    s.events = e :: rest → step s = .next u → u.sleeping = false →
    e = .reset ∨ ∃ offer, e = .interrupt offer ∧ s.accepts offer = true)

/-- With TRAP_ENTRY = reference, from a state outside a slot: if BL = 0, taking e enters at VBR + 0x100 with
SPC the saved PC of e (PC + 2 for a trap, PC otherwise), SSR = SR, SGR = R15, EXPEVT = the code of e, TRA =
zext(imm) << 2 for a trap only, TEA the address for an address error only, MD, RB, BL = 1, LDST = 0, nothing
else written; if BL = 1 it faults BlockedException. An accepted interrupt enters at VBR + 0x600 with SPC =
PC and INTEVT its code. With TRAP_ENTRY = reference, outside a slot, an exception raised while BL = 1 faults
BlockedException; while BL = 1 an offered interrupt is not accepted and the state is unchanged. The form of
an interrupt offer (log 10), and for NMI its code and that it is not accepted while BL = 1 (log 11), are the
model's. [60_exceptions.md R620, 60_exceptions.md R622, 60_exceptions.md R623, 60_exceptions.md R625,
60_exceptions.md R626, log 10, log 11] -/
def Obligations.ExceptionEntryAndBlocking : Prop :=
  (∀ (e : Exc) (s : State), s.ds = .normal → s.params.trapEntry = .reference →
    (s.bl = true → takeException e s = .fault .blockedException) ∧
    (s.bl = false → ∃ u, takeException e s = .next u ∧
      Entered (match e with | .trap _ => s.pc + 2 | _ => s.pc) (s.vbr + 0x100) s u ∧
      u.expevt = (match e with
        | .instructionAddressError _ => 0x0E0 | .dataAddressErrorRead _ => 0x0E0
        | .dataAddressErrorWrite _ => 0x100 | .trap _ => 0x160
        | .generalIllegalInstruction => 0x180 | .slotIllegalInstruction => 0x1A0) ∧
      u.tra = (match e with | .trap imm => imm.setWidth 32 <<< 2 | _ => s.tra) ∧
      u.tea = (match e with
        | .instructionAddressError a => a | .dataAddressErrorRead a => a | .dataAddressErrorWrite a => a
        | _ => s.tea) ∧
      u.intevt = s.intevt ∧ u.sleeping = s.sleeping)) ∧
  (∀ (offer : Interrupt) (s : State), s.accepts offer = true →
    Entered s.pc (s.vbr + 0x600) s (s.offerInterrupt offer) ∧
    (s.offerInterrupt offer).intevt = offer.code ∧ (s.offerInterrupt offer).expevt = s.expevt ∧
    (s.offerInterrupt offer).tra = s.tra ∧ (s.offerInterrupt offer).tea = s.tea) ∧
  ∀ s : State, s.bl = true →
    (s.ds = .normal → s.params.trapEntry = .reference → ∀ e, takeException e s = .fault .blockedException) ∧
    ∀ offer, s.accepts offer = false ∧ s.offerInterrupt offer = s

/-- With TRAP_ENTRY = external, taking e answers the state before the instruction (before the branch, in a
slot) with only the model's report field set (log 12): the cause with its immediate or address, its event
code and its saved PC. [60_exceptions.md R621, log 12] -/
def Obligations.ExternalEntryReportsAndWritesNothing : Prop :=
  ∀ (e : Exc) (s : State), s.params.trapEntry = .external →
    (s.ds = .normal → takeException e s = .next { s with report := some ⟨e, e.code, e.savedPc s.pc⟩ }) ∧
    (∀ t undo, s.ds = .pending t undo → takeException e s = .next { s with
      pc := undo.pc, pr := undo.pr, sr := undo.sr, ds := .normal, report := some ⟨e, e.code, e.savedPc undo.pc⟩ })

/-- When the next event is an interrupt offer (log 10): if no mark is set (log 20), BL = 0 and the offer is
NMI or its level is above SR[7:4], the step enters at VBR + 0x600 with SPC = PC, INTEVT the offer's code
(0x1C0 for NMI, log 11) and Sleeping cleared; otherwise the offer is dropped and nothing else changes.
[60_exceptions.md R626, 60_exceptions.md R627, log 10, log 11, log 20] -/
def Obligations.InterruptsAreTakenBetweenStepsAboveTheMask : Prop :=
  ∀ (s : State) (offer : Interrupt) (rest : List Event), s.events = .interrupt offer :: rest →
    let s' := { s with events := rest }
    let accepted := s.mark = none ∧ s.bl = false ∧ (offer = .nmi ∨
      ∃ l code, offer = .level l code ∧ (s.sr.extractLsb' 4 4).toNat < l.toNat)
    (accepted → ∃ u, step s = .next u ∧ Entered s.pc (s.vbr + 0x600) s' u ∧ u.sleeping = false ∧
      u.intevt = (match offer with | .nmi => 0x1C0 | .level _ code => code) ∧
      u.expevt = s.expevt ∧ u.tra = s.tra ∧ u.tea = s.tea) ∧
    (¬accepted → step s = .next s')

/-- For every instruction of R584's set, with PRIV_CHECK = on and MD = 0 executing it takes
GeneralIllegalInstruction outside a slot and SlotIllegalInstruction inside one, before any access of its
own. With PRIV_CHECK = on and MD = 1 it executes as it does with PRIV_CHECK = off: it answers a state
exactly when that does, the same but for the parameter. [R585] -/
def Obligations.PrivilegedInstructionsTrapInUserMode : Prop :=
  ∀ (i : Instr) (s : State), privilegedInstr i = true →
    (s.params.privCheck = .on → s.md = false →
      (s.ds = .normal → exec i s = takeException .generalIllegalInstruction s) ∧
      (∀ t undo, s.ds = .pending t undo → exec i s = takeException .slotIllegalInstruction s)) ∧
    (s.md = true → ∀ p q : PrivCheck, ∀ u : State,
      exec i { s with params := { s.params with privCheck := p } } = .next u →
      exec i { s with params := { s.params with privCheck := q } } =
        .next { u with params := { u.params with privCheck := q } })

/-- With PRIV_CHECK = on, SR.MD = 0, the invariant, and no event before the engine's step: whatever is
fetched, a delayed branch and its slot included, if the step answers next u then either u keeps every SR bit
but T, S, Q, M, keeps VBR, SGR, SSR, SPC, DBR and every bank register, or u is what taking some exception
from the state before the step answers. [47_system.md R584, 47_system.md R585, 60_exceptions.md R622,
44_branch_delay_slot.md R405, log 12] -/
def Obligations.OnlyAnExceptionEntryLeavesUserMode : Prop :=
  ∀ s u : State, s.Inv → s.events = [] → s.params.privCheck = .on → s.md = false → step s = .next u →
    Confined s u ∨ ∃ e, takeException e s.fresh = .next u

/-- For every instruction and every state outside a slot, if executing it answers a next state and R36 does
not list it as a writer of a flag, that flag is unchanged, exceptions included (entry writes no flag).
[10_state.md R36, 60_exceptions.md R622] -/
def Obligations.FlagsChangeOnlyThroughTheirWriters : Prop :=
  ∀ (i : Instr) (s u : State), s.ds = .normal → exec i s = .next u →
    (writesT i = false → u.t = s.t) ∧ (writesS i = false → u.s = s.s) ∧
    (writesQ i = false → u.q = s.q) ∧ (writesM i = false → u.m = s.m)

/-- For every instruction that R85's table gives no write and every state, if executing it answers a next
state, every byte of memory reads as before, exceptions included; and no instruction changes the parameters
or the platform's coming events. That the parameters and the platform's events stand in State, where no
instruction reaches them, is the model's choice (log 1, log 10). [20_memory.md R85, 60_exceptions.md R622,
log 1, log 10] -/
def Obligations.MemoryChangesOnlyThroughTheStores : Prop :=
  ∀ (i : Instr) (s u : State), exec i s = .next u →
    (writesMemory i = false → SameMemory s u) ∧ u.params = s.params ∧ u.events = s.events

/-- From a state meeting the invariant with BL = 0 and TRAP_ENTRY = reference, TRAPA completes, and RTE
executed in the state it leaves (the handler's mode, so permitted in every privilege model) restores SR to
what it was and has the address after TRAPA as its pending target. [60_exceptions.md R628, 60_exceptions.md
R636, 44_branch_delay_slot.md R421, 47_system.md R582] -/
def Obligations.TrapThenReturnResumesAfterTheTrap : Prop :=
  ∀ (i : BitVec 8) (s : State), s.Inv → s.params.trapEntry = .reference → s.bl = false →
    Completes (.trapa i) s fun u => Completes .rte u fun v =>
      v.sr = s.sr ∧ ∃ undo, v.ds = .pending (s.pc + 2) undo

/-- For BF, BT, BF/S, BT/S (8 bits), BRA, BSR (12 bits), MOV.W @(disp,PC) and MOV.L @(disp,PC) or MOVA: a
label that gets a field d is the target R125 computes from d, and a label that is refused is the target of
no field. [30_encoding.md R125, 30_encoding.md R132] -/
def Obligations.LabelFieldsReachTheirLabels : Prop :=
  (∀ pc x : Word, (∀ d, labelField8 pc x = .ok d → pc + 4 + 2 * d.signExtend 32 = x) ∧
    (∀ e, labelField8 pc x = .error e → ∀ d : BitVec 8, pc + 4 + 2 * d.signExtend 32 ≠ x)) ∧
  (∀ pc x : Word, (∀ d, labelField12 pc x = .ok d → pc + 4 + 2 * d.signExtend 32 = x) ∧
    (∀ e, labelField12 pc x = .error e → ∀ d : BitVec 12, pc + 4 + 2 * d.signExtend 32 ≠ x)) ∧
  (∀ pc x : Word, (∀ d, literalWordField pc x = .ok d → pc + 4 + 2 * d.setWidth 32 = x) ∧
    (∀ e, literalWordField pc x = .error e → ∀ d : BitVec 8, pc + 4 + 2 * d.setWidth 32 ≠ x)) ∧
  (∀ pc x : Word, (∀ d, literalLongField pc x = .ok d → (pc &&& 0xFFFFFFFC) + 4 + 4 * d.setWidth 32 = x) ∧
    (∀ e, literalLongField pc x = .error e → ∀ d : BitVec 8, (pc &&& 0xFFFFFFFC) + 4 + 4 * d.setWidth 32 ≠ x))

/-- The address map is a parameter and the model's form of the port (log 4). The first region that covers an
address says what a read and a write of it do; in no region it is RAM. A RAM byte reads back what was
written (in a memory of canonical form), a constant byte reads its constant. A write to bytes the port does
not store changes nothing. A load, a store or a fetch with a byte the port does not answer in that direction
leaves the engine with no step, whatever the other direction does. [20_memory.md R92, 20_memory.md R94, log
4] -/
def Obligations.PortMapDecidesEachAccess : Prop :=
  (∀ (p : Params) (x : Word) (g : Region) (before after : List Region),
    (∀ h ∈ before, Region.covers h x = false) →
    (p.port = before → portReads p x = .stored ∧ portWrites p x = .stored) ∧
    (Region.covers g x = true → p.port = before ++ g :: after →
      portReads p x = g.reads ∧ portWrites p x = g.writes)) ∧
  (∀ (s : State) (x : Word) (b : Byte),
    (Keeps s x 1 → (s.setByte x b).byteAt x = b) ∧
    (∀ c, portReads s.params x = .constant c → (s.setByte x b).byteAt x = c) ∧
    (portWrites s.params x ≠ .stored → s.setByte x b = s)) ∧
  (∀ (s : State) (w : Width) (a v : Word),
    (∀ k, k < Width.bytes w → portWrites s.params (a + BitVec.ofNat 32 k) ≠ .stored) → s.memWrite w a v = s) ∧
  (∀ (s : State) (w : Width) (a v : Word) (n : Nat) (k : Word → Result) (c : State → Result) (f : Half → Result),
    Width.aligned w a = true → n < Width.bytes w →
    (portReads s.params (a + BitVec.ofNat 32 n) = .unanswered → s.load w a k = .fault .portNoAnswer) ∧
    (portWrites s.params (a + BitVec.ofNat 32 n) = .unanswered → s.store w a v c = .fault .portNoAnswer) ∧
    (w = .word → portReads s.params (a + BitVec.ofNat 32 n) = .unanswered →
      s.fetch a f = .fault .portNoAnswer))

/-- When the platform has scheduled the engine's step (log 10) and that step faults or is refused, the state
after it is the state before it with the mark set (log 20). A marked engine's own step answers its mark's
fault or refusal; no event but a reset clears the mark, and none but a reset and a debugger's write changes
anything else; a reset discards it. A run of at most k steps, with or without a stop address: a marked state
ends it, never finally; an unmarked state with Sleeping = 1 and no interrupt among the platform's coming
events (log 10) ends it finally; a PC at the stop address ends it; else with no step left it ends at the
bound, and with one left it goes on from the state the step answers, or, where the step faults or is
refused, ends in the state before it with the mark set (log 20). With no event coming, a final state's step
is the state itself. [10_state.md R50, 00_scope.md R21, 70_reset_and_hazards.md R681, log 10, log 20,
70_reset_and_hazards.md R687, 47_system.md R586] -/
def Obligations.MarksStayUntilAResetAndEndRuns : Prop :=
  (∀ (s : State) (rest : List Event), s.events = .engine :: rest → s.mark = none →
    let s' := { s with events := rest }
    (∀ f, engineStep s' = .fault f → step s = .next { s' with mark := some (.faulted f) }) ∧
    (∀ r, engineStep s' = .refused r → step s = .next { s' with mark := some (.refused r) }) ∧
    (∀ u, engineStep s' = .next u → step s = .next u ∧ u.mark = none)) ∧
  (∀ (s : State) (m : Mark), s.mark = some m →
    (s.events = [] → ∀ u, step s ≠ .next u) ∧
    (s.events = [] → ∀ f, m = .faulted f → step s = .fault f) ∧
    (s.events = [] → ∀ r, m = .refused r → step s = .refused r) ∧
    (∀ (e : Event) (rest : List Event), s.events = e :: rest →
      (e = .reset → ∃ u, step s = .next u ∧ u.mark = none) ∧
      (e ≠ .reset → (∃ u, step s = .next u ∧ u.mark = some m) ∧
        ((∀ target v, e ≠ .debugWrite target v) → step s = .next { s with events := rest })))) ∧
  (∀ (stop : Option Word) (k : Nat) (s : State),
    (s.mark ≠ none → run stop k s = .marked s) ∧
    (s.mark = none →
      let final := s.sleeping = true ∧ ∀ offer, Event.interrupt offer ∉ s.events
      (final → run stop k s = .final s) ∧
      (¬final → stop = some s.pc → run stop k s = .stopped s) ∧
      (¬final → stop ≠ some s.pc →
        run stop 0 s = .bounded s ∧
        (∀ u, step s = .next u → run stop (k + 1) s = run stop k u) ∧
        (∀ f, step s = .fault f → run stop (k + 1) s = .marked { s with mark := some (.faulted f) }) ∧
        (∀ r, step s = .refused r → run stop (k + 1) s = .marked { s with mark := some (.refused r) })))) ∧
  (∀ s u : State, ∀ k stop, run stop k s = .final u →
    u.mark = none ∧ u.sleeping = true ∧ (u.events = [] → u.ds = .normal → step u = .next u))
end

