-- ==== Sys2Proof/Laws/Decode.lean ====
section
/-! SUPPORT. Words as nibbles: what the decoder reads from a word written nibble by nibble, or as a nibble
and a wider field (30_encoding.md R121, R122). -/

namespace Sys2Proof

/-- A bit of four nibbles. -/
theorem getLsbD_nibbles (a b c d : BitVec 4) (i : Nat) : (nibbles a b c d).getLsbD i =
    if i < 4 then d.getLsbD i else if i < 8 then c.getLsbD (i - 4)
    else if i < 12 then b.getLsbD (i - 8) else a.getLsbD (i - 12) := by
  show BitVec.getLsbD ((a ++ b) ++ c ++ d : BitVec (4 + 4 + 4 + 4)) i = _
  simp only [BitVec.getLsbD_append]
  split
  · rfl
  · by_cases h : i < 8
    · rw [if_pos (by omega), if_pos h]
    · rw [if_neg (by omega), if_neg h]
      by_cases h' : i < 12
      · rw [if_pos (by omega), if_pos h', show i - 4 - 4 = i - 8 by omega]
      · rw [if_neg (by omega), if_neg h', show i - 4 - 4 - 4 = i - 12 by omega]

/-- A bit of a nibble of a value. -/
theorem getLsbD_nib {w : Nat} (v : BitVec w) (k i : Nat) :
    (nib v k).getLsbD i = (decide (i < 4) && v.getLsbD (4 * k + i)) := by
  unfold nib; rw [BitVec.getLsbD_extractLsb']

theorem nib_nibbles_3 (a b c d : BitVec 4) : nib (nibbles a b c d) 3 = a := by
  apply BitVec.eq_of_getLsbD_eq; intro i hi
  rw [getLsbD_nib, getLsbD_nibbles]
  interval_cases i <;> simp

theorem nib_nibbles_2 (a b c d : BitVec 4) : nib (nibbles a b c d) 2 = b := by
  apply BitVec.eq_of_getLsbD_eq; intro i hi
  rw [getLsbD_nib, getLsbD_nibbles]
  interval_cases i <;> simp

theorem nib_nibbles_1 (a b c d : BitVec 4) : nib (nibbles a b c d) 1 = c := by
  apply BitVec.eq_of_getLsbD_eq; intro i hi
  rw [getLsbD_nib, getLsbD_nibbles]
  interval_cases i <;> simp

theorem nib_nibbles_0 (a b c d : BitVec 4) : nib (nibbles a b c d) 0 = d := by
  apply BitVec.eq_of_getLsbD_eq; intro i hi
  rw [getLsbD_nib, getLsbD_nibbles]
  interval_cases i <;> simp

/-- The decoder on a word written nibble by nibble. -/
theorem decode_nibbles (a b c d : BitVec 4) : decode (nibbles a b c d) =
    (decodeNibbles a b c d).elim (.error .undefinedWord) .ok := by
  unfold decode
  rw [nib_nibbles_3, nib_nibbles_2, nib_nibbles_1, nib_nibbles_0]
  cases decodeNibbles a b c d <;> rfl

/-- A word decodes as the instruction its nibbles name. -/
theorem decode_of_nibbles {a b c d : BitVec 4} {i : Instr} (h : decodeNibbles a b c d = some i) :
    decode (nibbles a b c d) = .ok i := by rw [decode_nibbles, h]; rfl

/-- Every word is its four nibbles. -/
theorem nibbles_nib (w : Half) : nibbles (nib w 3) (nib w 2) (nib w 1) (nib w 0) = w := by
  apply BitVec.eq_of_getLsbD_eq; intro i hi
  rw [getLsbD_nibbles]; simp only [getLsbD_nib]
  interval_cases i <;> simp

/-- Two nibbles and a byte (the 8-bit fields of R122). -/
theorem nibbles_byte (a b : BitVec 4) (i : BitVec 8) :
    nibbles a b (nib i 1) (nib i 0) = ((a ++ b ++ i : BitVec (4 + 4 + 8)) : Half) := by
  apply BitVec.eq_of_getLsbD_eq; intro k hk
  show _ = BitVec.getLsbD (a ++ b ++ i : BitVec (4 + 4 + 8)) k
  rw [getLsbD_nibbles, BitVec.getLsbD_append, BitVec.getLsbD_append]
  simp only [getLsbD_nib]
  interval_cases k <;> simp

/-- One nibble and a 12-bit field. -/
theorem nibbles_twelve (a : BitVec 4) (i : BitVec 12) :
    nibbles a (nib i 2) (nib i 1) (nib i 0) = ((a ++ i : BitVec (4 + 12)) : Half) := by
  apply BitVec.eq_of_getLsbD_eq; intro k hk
  show _ = BitVec.getLsbD (a ++ i : BitVec (4 + 12)) k
  rw [getLsbD_nibbles, BitVec.getLsbD_append]
  simp only [getLsbD_nib]
  interval_cases k <;> simp

/-- Two nibbles and the bank form's fields: a 1, the bank register, a nibble. -/
theorem nibbles_bank (a b d : BitVec 4) (k : BankReg) :
    nibbles a b (1#1 ++ k) d = ((a ++ b ++ 0b1#1 ++ k ++ d : BitVec (4 + 4 + 1 + 3 + 4)) : Half) := by
  apply BitVec.eq_of_getLsbD_eq; intro j hj
  show _ = BitVec.getLsbD (a ++ b ++ 0b1#1 ++ k ++ d : BitVec (4 + 4 + 1 + 3 + 4)) j
  rw [getLsbD_nibbles]
  have e : ∀ i, BitVec.getLsbD (1#1 ++ k : BitVec 4) i = BitVec.getLsbD (1#1 ++ k : BitVec (1 + 3)) i := fun _ => rfl
  simp only [BitVec.getLsbD_append, e]
  interval_cases j <;> simp

/-- A byte is its two nibbles. -/
theorem byte_nib (i : BitVec 8) : (nib i 1 ++ nib i 0 : BitVec (4 + 4)) = i := by
  apply BitVec.eq_of_getLsbD_eq; intro k hk
  rw [BitVec.getLsbD_append]
  simp only [getLsbD_nib]
  interval_cases k <;> simp

/-- A 12-bit field is its three nibbles. -/
theorem twelve_nib (i : BitVec 12) : (nib i 2 ++ nib i 1 ++ nib i 0 : BitVec (4 + 4 + 4)) = i := by
  apply BitVec.eq_of_getLsbD_eq; intro k hk
  rw [BitVec.getLsbD_append, BitVec.getLsbD_append]
  simp only [getLsbD_nib]
  interval_cases k <;> simp

/-- The fields of the bank form's third nibble. -/
theorem bank_field (k : BankReg) :
    (1#1 ++ k : BitVec 4).msb = true ∧ BitVec.extractLsb' 0 3 (1#1 ++ k : BitVec 4) = k := by
  revert k; decide

end Sys2Proof
end

