-- ==== Sys2Proof/Laws/State.lean ====
section
/-! SUPPORT. What each named update of the state does to each field, once, and the views (flags, general
and bank registers, MAC halves) under each update. -/

namespace Sys2Proof.Machine

/-! ## One lemma per field per update -/

section Fields
variable (s : State)

@[simp] theorem State.setT_params (v : Bool) : (s.setT v).params = s.params := rfl
@[simp] theorem State.setT_b0 (v : Bool) : (s.setT v).b0 = s.b0 := rfl
@[simp] theorem State.setT_b1 (v : Bool) : (s.setT v).b1 = s.b1 := rfl
@[simp] theorem State.setT_rh (v : Bool) : (s.setT v).rh = s.rh := rfl
@[simp] theorem State.setT_sr (v : Bool) : (s.setT v).sr = putBit s.sr 0 v := rfl
@[simp] theorem State.setT_gbr (v : Bool) : (s.setT v).gbr = s.gbr := rfl
@[simp] theorem State.setT_vbr (v : Bool) : (s.setT v).vbr = s.vbr := rfl
@[simp] theorem State.setT_sgr (v : Bool) : (s.setT v).sgr = s.sgr := rfl
@[simp] theorem State.setT_ssr (v : Bool) : (s.setT v).ssr = s.ssr := rfl
@[simp] theorem State.setT_spc (v : Bool) : (s.setT v).spc = s.spc := rfl
@[simp] theorem State.setT_dbr (v : Bool) : (s.setT v).dbr = s.dbr := rfl
@[simp] theorem State.setT_pr (v : Bool) : (s.setT v).pr = s.pr := rfl
@[simp] theorem State.setT_mac (v : Bool) : (s.setT v).mac = s.mac := rfl
@[simp] theorem State.setT_pc (v : Bool) : (s.setT v).pc = s.pc := rfl
@[simp] theorem State.setT_ldst (v : Bool) : (s.setT v).ldst = s.ldst := rfl
@[simp] theorem State.setT_sleeping (v : Bool) : (s.setT v).sleeping = s.sleeping := rfl
@[simp] theorem State.setT_ds (v : Bool) : (s.setT v).ds = s.ds := rfl
@[simp] theorem State.setT_mark (v : Bool) : (s.setT v).mark = s.mark := rfl
@[simp] theorem State.setT_expevt (v : Bool) : (s.setT v).expevt = s.expevt := rfl
@[simp] theorem State.setT_intevt (v : Bool) : (s.setT v).intevt = s.intevt := rfl
@[simp] theorem State.setT_tra (v : Bool) : (s.setT v).tra = s.tra := rfl
@[simp] theorem State.setT_tea (v : Bool) : (s.setT v).tea = s.tea := rfl
@[simp] theorem State.setT_mem (v : Bool) : (s.setT v).mem = s.mem := rfl
@[simp] theorem State.setT_report (v : Bool) : (s.setT v).report = s.report := rfl
@[simp] theorem State.setT_events (v : Bool) : (s.setT v).events = s.events := rfl
@[simp] theorem State.setT_draws (v : Bool) : (s.setT v).draws = s.draws := rfl
@[simp] theorem State.setT_ticks (v : Bool) : (s.setT v).ticks = s.ticks := rfl

@[simp] theorem State.setS_params (v : Bool) : (s.setS v).params = s.params := rfl
@[simp] theorem State.setS_b0 (v : Bool) : (s.setS v).b0 = s.b0 := rfl
@[simp] theorem State.setS_b1 (v : Bool) : (s.setS v).b1 = s.b1 := rfl
@[simp] theorem State.setS_rh (v : Bool) : (s.setS v).rh = s.rh := rfl
@[simp] theorem State.setS_sr (v : Bool) : (s.setS v).sr = putBit s.sr 1 v := rfl
@[simp] theorem State.setS_gbr (v : Bool) : (s.setS v).gbr = s.gbr := rfl
@[simp] theorem State.setS_vbr (v : Bool) : (s.setS v).vbr = s.vbr := rfl
@[simp] theorem State.setS_sgr (v : Bool) : (s.setS v).sgr = s.sgr := rfl
@[simp] theorem State.setS_ssr (v : Bool) : (s.setS v).ssr = s.ssr := rfl
@[simp] theorem State.setS_spc (v : Bool) : (s.setS v).spc = s.spc := rfl
@[simp] theorem State.setS_dbr (v : Bool) : (s.setS v).dbr = s.dbr := rfl
@[simp] theorem State.setS_pr (v : Bool) : (s.setS v).pr = s.pr := rfl
@[simp] theorem State.setS_mac (v : Bool) : (s.setS v).mac = s.mac := rfl
@[simp] theorem State.setS_pc (v : Bool) : (s.setS v).pc = s.pc := rfl
@[simp] theorem State.setS_ldst (v : Bool) : (s.setS v).ldst = s.ldst := rfl
@[simp] theorem State.setS_sleeping (v : Bool) : (s.setS v).sleeping = s.sleeping := rfl
@[simp] theorem State.setS_ds (v : Bool) : (s.setS v).ds = s.ds := rfl
@[simp] theorem State.setS_mark (v : Bool) : (s.setS v).mark = s.mark := rfl
@[simp] theorem State.setS_expevt (v : Bool) : (s.setS v).expevt = s.expevt := rfl
@[simp] theorem State.setS_intevt (v : Bool) : (s.setS v).intevt = s.intevt := rfl
@[simp] theorem State.setS_tra (v : Bool) : (s.setS v).tra = s.tra := rfl
@[simp] theorem State.setS_tea (v : Bool) : (s.setS v).tea = s.tea := rfl
@[simp] theorem State.setS_mem (v : Bool) : (s.setS v).mem = s.mem := rfl
@[simp] theorem State.setS_report (v : Bool) : (s.setS v).report = s.report := rfl
@[simp] theorem State.setS_events (v : Bool) : (s.setS v).events = s.events := rfl
@[simp] theorem State.setS_draws (v : Bool) : (s.setS v).draws = s.draws := rfl
@[simp] theorem State.setS_ticks (v : Bool) : (s.setS v).ticks = s.ticks := rfl

@[simp] theorem State.setQ_params (v : Bool) : (s.setQ v).params = s.params := rfl
@[simp] theorem State.setQ_b0 (v : Bool) : (s.setQ v).b0 = s.b0 := rfl
@[simp] theorem State.setQ_b1 (v : Bool) : (s.setQ v).b1 = s.b1 := rfl
@[simp] theorem State.setQ_rh (v : Bool) : (s.setQ v).rh = s.rh := rfl
@[simp] theorem State.setQ_sr (v : Bool) : (s.setQ v).sr = putBit s.sr 8 v := rfl
@[simp] theorem State.setQ_gbr (v : Bool) : (s.setQ v).gbr = s.gbr := rfl
@[simp] theorem State.setQ_vbr (v : Bool) : (s.setQ v).vbr = s.vbr := rfl
@[simp] theorem State.setQ_sgr (v : Bool) : (s.setQ v).sgr = s.sgr := rfl
@[simp] theorem State.setQ_ssr (v : Bool) : (s.setQ v).ssr = s.ssr := rfl
@[simp] theorem State.setQ_spc (v : Bool) : (s.setQ v).spc = s.spc := rfl
@[simp] theorem State.setQ_dbr (v : Bool) : (s.setQ v).dbr = s.dbr := rfl
@[simp] theorem State.setQ_pr (v : Bool) : (s.setQ v).pr = s.pr := rfl
@[simp] theorem State.setQ_mac (v : Bool) : (s.setQ v).mac = s.mac := rfl
@[simp] theorem State.setQ_pc (v : Bool) : (s.setQ v).pc = s.pc := rfl
@[simp] theorem State.setQ_ldst (v : Bool) : (s.setQ v).ldst = s.ldst := rfl
@[simp] theorem State.setQ_sleeping (v : Bool) : (s.setQ v).sleeping = s.sleeping := rfl
@[simp] theorem State.setQ_ds (v : Bool) : (s.setQ v).ds = s.ds := rfl
@[simp] theorem State.setQ_mark (v : Bool) : (s.setQ v).mark = s.mark := rfl
@[simp] theorem State.setQ_expevt (v : Bool) : (s.setQ v).expevt = s.expevt := rfl
@[simp] theorem State.setQ_intevt (v : Bool) : (s.setQ v).intevt = s.intevt := rfl
@[simp] theorem State.setQ_tra (v : Bool) : (s.setQ v).tra = s.tra := rfl
@[simp] theorem State.setQ_tea (v : Bool) : (s.setQ v).tea = s.tea := rfl
@[simp] theorem State.setQ_mem (v : Bool) : (s.setQ v).mem = s.mem := rfl
@[simp] theorem State.setQ_report (v : Bool) : (s.setQ v).report = s.report := rfl
@[simp] theorem State.setQ_events (v : Bool) : (s.setQ v).events = s.events := rfl
@[simp] theorem State.setQ_draws (v : Bool) : (s.setQ v).draws = s.draws := rfl
@[simp] theorem State.setQ_ticks (v : Bool) : (s.setQ v).ticks = s.ticks := rfl

@[simp] theorem State.setM_params (v : Bool) : (s.setM v).params = s.params := rfl
@[simp] theorem State.setM_b0 (v : Bool) : (s.setM v).b0 = s.b0 := rfl
@[simp] theorem State.setM_b1 (v : Bool) : (s.setM v).b1 = s.b1 := rfl
@[simp] theorem State.setM_rh (v : Bool) : (s.setM v).rh = s.rh := rfl
@[simp] theorem State.setM_sr (v : Bool) : (s.setM v).sr = putBit s.sr 9 v := rfl
@[simp] theorem State.setM_gbr (v : Bool) : (s.setM v).gbr = s.gbr := rfl
@[simp] theorem State.setM_vbr (v : Bool) : (s.setM v).vbr = s.vbr := rfl
@[simp] theorem State.setM_sgr (v : Bool) : (s.setM v).sgr = s.sgr := rfl
@[simp] theorem State.setM_ssr (v : Bool) : (s.setM v).ssr = s.ssr := rfl
@[simp] theorem State.setM_spc (v : Bool) : (s.setM v).spc = s.spc := rfl
@[simp] theorem State.setM_dbr (v : Bool) : (s.setM v).dbr = s.dbr := rfl
@[simp] theorem State.setM_pr (v : Bool) : (s.setM v).pr = s.pr := rfl
@[simp] theorem State.setM_mac (v : Bool) : (s.setM v).mac = s.mac := rfl
@[simp] theorem State.setM_pc (v : Bool) : (s.setM v).pc = s.pc := rfl
@[simp] theorem State.setM_ldst (v : Bool) : (s.setM v).ldst = s.ldst := rfl
@[simp] theorem State.setM_sleeping (v : Bool) : (s.setM v).sleeping = s.sleeping := rfl
@[simp] theorem State.setM_ds (v : Bool) : (s.setM v).ds = s.ds := rfl
@[simp] theorem State.setM_mark (v : Bool) : (s.setM v).mark = s.mark := rfl
@[simp] theorem State.setM_expevt (v : Bool) : (s.setM v).expevt = s.expevt := rfl
@[simp] theorem State.setM_intevt (v : Bool) : (s.setM v).intevt = s.intevt := rfl
@[simp] theorem State.setM_tra (v : Bool) : (s.setM v).tra = s.tra := rfl
@[simp] theorem State.setM_tea (v : Bool) : (s.setM v).tea = s.tea := rfl
@[simp] theorem State.setM_mem (v : Bool) : (s.setM v).mem = s.mem := rfl
@[simp] theorem State.setM_report (v : Bool) : (s.setM v).report = s.report := rfl
@[simp] theorem State.setM_events (v : Bool) : (s.setM v).events = s.events := rfl
@[simp] theorem State.setM_draws (v : Bool) : (s.setM v).draws = s.draws := rfl
@[simp] theorem State.setM_ticks (v : Bool) : (s.setM v).ticks = s.ticks := rfl

@[simp] theorem State.setSr_params (v : Word) : (s.setSr v).params = s.params := rfl
@[simp] theorem State.setSr_b0 (v : Word) : (s.setSr v).b0 = s.b0 := rfl
@[simp] theorem State.setSr_b1 (v : Word) : (s.setSr v).b1 = s.b1 := rfl
@[simp] theorem State.setSr_rh (v : Word) : (s.setSr v).rh = s.rh := rfl
@[simp] theorem State.setSr_sr (v : Word) : (s.setSr v).sr = v &&& srMask := rfl
@[simp] theorem State.setSr_gbr (v : Word) : (s.setSr v).gbr = s.gbr := rfl
@[simp] theorem State.setSr_vbr (v : Word) : (s.setSr v).vbr = s.vbr := rfl
@[simp] theorem State.setSr_sgr (v : Word) : (s.setSr v).sgr = s.sgr := rfl
@[simp] theorem State.setSr_ssr (v : Word) : (s.setSr v).ssr = s.ssr := rfl
@[simp] theorem State.setSr_spc (v : Word) : (s.setSr v).spc = s.spc := rfl
@[simp] theorem State.setSr_dbr (v : Word) : (s.setSr v).dbr = s.dbr := rfl
@[simp] theorem State.setSr_pr (v : Word) : (s.setSr v).pr = s.pr := rfl
@[simp] theorem State.setSr_mac (v : Word) : (s.setSr v).mac = s.mac := rfl
@[simp] theorem State.setSr_pc (v : Word) : (s.setSr v).pc = s.pc := rfl
@[simp] theorem State.setSr_ldst (v : Word) : (s.setSr v).ldst = s.ldst := rfl
@[simp] theorem State.setSr_sleeping (v : Word) : (s.setSr v).sleeping = s.sleeping := rfl
@[simp] theorem State.setSr_ds (v : Word) : (s.setSr v).ds = s.ds := rfl
@[simp] theorem State.setSr_mark (v : Word) : (s.setSr v).mark = s.mark := rfl
@[simp] theorem State.setSr_expevt (v : Word) : (s.setSr v).expevt = s.expevt := rfl
@[simp] theorem State.setSr_intevt (v : Word) : (s.setSr v).intevt = s.intevt := rfl
@[simp] theorem State.setSr_tra (v : Word) : (s.setSr v).tra = s.tra := rfl
@[simp] theorem State.setSr_tea (v : Word) : (s.setSr v).tea = s.tea := rfl
@[simp] theorem State.setSr_mem (v : Word) : (s.setSr v).mem = s.mem := rfl
@[simp] theorem State.setSr_report (v : Word) : (s.setSr v).report = s.report := rfl
@[simp] theorem State.setSr_events (v : Word) : (s.setSr v).events = s.events := rfl
@[simp] theorem State.setSr_draws (v : Word) : (s.setSr v).draws = s.draws := rfl
@[simp] theorem State.setSr_ticks (v : Word) : (s.setSr v).ticks = s.ticks := rfl

@[simp] theorem State.setR_params (i : Reg) (v : Word) : (s.setR i v).params = s.params := by unfold State.setR; split <;> (try split) <;> rfl
@[simp] theorem State.setR_sr (i : Reg) (v : Word) : (s.setR i v).sr = s.sr := by unfold State.setR; split <;> (try split) <;> rfl
@[simp] theorem State.setR_gbr (i : Reg) (v : Word) : (s.setR i v).gbr = s.gbr := by unfold State.setR; split <;> (try split) <;> rfl
@[simp] theorem State.setR_vbr (i : Reg) (v : Word) : (s.setR i v).vbr = s.vbr := by unfold State.setR; split <;> (try split) <;> rfl
@[simp] theorem State.setR_sgr (i : Reg) (v : Word) : (s.setR i v).sgr = s.sgr := by unfold State.setR; split <;> (try split) <;> rfl
@[simp] theorem State.setR_ssr (i : Reg) (v : Word) : (s.setR i v).ssr = s.ssr := by unfold State.setR; split <;> (try split) <;> rfl
@[simp] theorem State.setR_spc (i : Reg) (v : Word) : (s.setR i v).spc = s.spc := by unfold State.setR; split <;> (try split) <;> rfl
@[simp] theorem State.setR_dbr (i : Reg) (v : Word) : (s.setR i v).dbr = s.dbr := by unfold State.setR; split <;> (try split) <;> rfl
@[simp] theorem State.setR_pr (i : Reg) (v : Word) : (s.setR i v).pr = s.pr := by unfold State.setR; split <;> (try split) <;> rfl
@[simp] theorem State.setR_mac (i : Reg) (v : Word) : (s.setR i v).mac = s.mac := by unfold State.setR; split <;> (try split) <;> rfl
@[simp] theorem State.setR_pc (i : Reg) (v : Word) : (s.setR i v).pc = s.pc := by unfold State.setR; split <;> (try split) <;> rfl
@[simp] theorem State.setR_ldst (i : Reg) (v : Word) : (s.setR i v).ldst = s.ldst := by unfold State.setR; split <;> (try split) <;> rfl
@[simp] theorem State.setR_sleeping (i : Reg) (v : Word) : (s.setR i v).sleeping = s.sleeping := by unfold State.setR; split <;> (try split) <;> rfl
@[simp] theorem State.setR_ds (i : Reg) (v : Word) : (s.setR i v).ds = s.ds := by unfold State.setR; split <;> (try split) <;> rfl
@[simp] theorem State.setR_mark (i : Reg) (v : Word) : (s.setR i v).mark = s.mark := by unfold State.setR; split <;> (try split) <;> rfl
@[simp] theorem State.setR_expevt (i : Reg) (v : Word) : (s.setR i v).expevt = s.expevt := by unfold State.setR; split <;> (try split) <;> rfl
@[simp] theorem State.setR_intevt (i : Reg) (v : Word) : (s.setR i v).intevt = s.intevt := by unfold State.setR; split <;> (try split) <;> rfl
@[simp] theorem State.setR_tra (i : Reg) (v : Word) : (s.setR i v).tra = s.tra := by unfold State.setR; split <;> (try split) <;> rfl
@[simp] theorem State.setR_tea (i : Reg) (v : Word) : (s.setR i v).tea = s.tea := by unfold State.setR; split <;> (try split) <;> rfl
@[simp] theorem State.setR_mem (i : Reg) (v : Word) : (s.setR i v).mem = s.mem := by unfold State.setR; split <;> (try split) <;> rfl
@[simp] theorem State.setR_report (i : Reg) (v : Word) : (s.setR i v).report = s.report := by unfold State.setR; split <;> (try split) <;> rfl
@[simp] theorem State.setR_events (i : Reg) (v : Word) : (s.setR i v).events = s.events := by unfold State.setR; split <;> (try split) <;> rfl
@[simp] theorem State.setR_draws (i : Reg) (v : Word) : (s.setR i v).draws = s.draws := by unfold State.setR; split <;> (try split) <;> rfl
@[simp] theorem State.setR_ticks (i : Reg) (v : Word) : (s.setR i v).ticks = s.ticks := by unfold State.setR; split <;> (try split) <;> rfl

@[simp] theorem State.setRBank_params (b : BankReg) (v : Word) : (s.setRBank b v).params = s.params := by unfold State.setRBank; split <;> rfl
@[simp] theorem State.setRBank_rh (b : BankReg) (v : Word) : (s.setRBank b v).rh = s.rh := by unfold State.setRBank; split <;> rfl
@[simp] theorem State.setRBank_sr (b : BankReg) (v : Word) : (s.setRBank b v).sr = s.sr := by unfold State.setRBank; split <;> rfl
@[simp] theorem State.setRBank_gbr (b : BankReg) (v : Word) : (s.setRBank b v).gbr = s.gbr := by unfold State.setRBank; split <;> rfl
@[simp] theorem State.setRBank_vbr (b : BankReg) (v : Word) : (s.setRBank b v).vbr = s.vbr := by unfold State.setRBank; split <;> rfl
@[simp] theorem State.setRBank_sgr (b : BankReg) (v : Word) : (s.setRBank b v).sgr = s.sgr := by unfold State.setRBank; split <;> rfl
@[simp] theorem State.setRBank_ssr (b : BankReg) (v : Word) : (s.setRBank b v).ssr = s.ssr := by unfold State.setRBank; split <;> rfl
@[simp] theorem State.setRBank_spc (b : BankReg) (v : Word) : (s.setRBank b v).spc = s.spc := by unfold State.setRBank; split <;> rfl
@[simp] theorem State.setRBank_dbr (b : BankReg) (v : Word) : (s.setRBank b v).dbr = s.dbr := by unfold State.setRBank; split <;> rfl
@[simp] theorem State.setRBank_pr (b : BankReg) (v : Word) : (s.setRBank b v).pr = s.pr := by unfold State.setRBank; split <;> rfl
@[simp] theorem State.setRBank_mac (b : BankReg) (v : Word) : (s.setRBank b v).mac = s.mac := by unfold State.setRBank; split <;> rfl
@[simp] theorem State.setRBank_pc (b : BankReg) (v : Word) : (s.setRBank b v).pc = s.pc := by unfold State.setRBank; split <;> rfl
@[simp] theorem State.setRBank_ldst (b : BankReg) (v : Word) : (s.setRBank b v).ldst = s.ldst := by unfold State.setRBank; split <;> rfl
@[simp] theorem State.setRBank_sleeping (b : BankReg) (v : Word) : (s.setRBank b v).sleeping = s.sleeping := by unfold State.setRBank; split <;> rfl
@[simp] theorem State.setRBank_ds (b : BankReg) (v : Word) : (s.setRBank b v).ds = s.ds := by unfold State.setRBank; split <;> rfl
@[simp] theorem State.setRBank_mark (b : BankReg) (v : Word) : (s.setRBank b v).mark = s.mark := by unfold State.setRBank; split <;> rfl
@[simp] theorem State.setRBank_expevt (b : BankReg) (v : Word) : (s.setRBank b v).expevt = s.expevt := by unfold State.setRBank; split <;> rfl
@[simp] theorem State.setRBank_intevt (b : BankReg) (v : Word) : (s.setRBank b v).intevt = s.intevt := by unfold State.setRBank; split <;> rfl
@[simp] theorem State.setRBank_tra (b : BankReg) (v : Word) : (s.setRBank b v).tra = s.tra := by unfold State.setRBank; split <;> rfl
@[simp] theorem State.setRBank_tea (b : BankReg) (v : Word) : (s.setRBank b v).tea = s.tea := by unfold State.setRBank; split <;> rfl
@[simp] theorem State.setRBank_mem (b : BankReg) (v : Word) : (s.setRBank b v).mem = s.mem := by unfold State.setRBank; split <;> rfl
@[simp] theorem State.setRBank_report (b : BankReg) (v : Word) : (s.setRBank b v).report = s.report := by unfold State.setRBank; split <;> rfl
@[simp] theorem State.setRBank_events (b : BankReg) (v : Word) : (s.setRBank b v).events = s.events := by unfold State.setRBank; split <;> rfl
@[simp] theorem State.setRBank_draws (b : BankReg) (v : Word) : (s.setRBank b v).draws = s.draws := by unfold State.setRBank; split <;> rfl
@[simp] theorem State.setRBank_ticks (b : BankReg) (v : Word) : (s.setRBank b v).ticks = s.ticks := by unfold State.setRBank; split <;> rfl

@[simp] theorem State.setMach_params (v : Word) : (s.setMach v).params = s.params := rfl
@[simp] theorem State.setMach_b0 (v : Word) : (s.setMach v).b0 = s.b0 := rfl
@[simp] theorem State.setMach_b1 (v : Word) : (s.setMach v).b1 = s.b1 := rfl
@[simp] theorem State.setMach_rh (v : Word) : (s.setMach v).rh = s.rh := rfl
@[simp] theorem State.setMach_sr (v : Word) : (s.setMach v).sr = s.sr := rfl
@[simp] theorem State.setMach_gbr (v : Word) : (s.setMach v).gbr = s.gbr := rfl
@[simp] theorem State.setMach_vbr (v : Word) : (s.setMach v).vbr = s.vbr := rfl
@[simp] theorem State.setMach_sgr (v : Word) : (s.setMach v).sgr = s.sgr := rfl
@[simp] theorem State.setMach_ssr (v : Word) : (s.setMach v).ssr = s.ssr := rfl
@[simp] theorem State.setMach_spc (v : Word) : (s.setMach v).spc = s.spc := rfl
@[simp] theorem State.setMach_dbr (v : Word) : (s.setMach v).dbr = s.dbr := rfl
@[simp] theorem State.setMach_pr (v : Word) : (s.setMach v).pr = s.pr := rfl
@[simp] theorem State.setMach_mac (v : Word) : (s.setMach v).mac = v ++ s.macl := rfl
@[simp] theorem State.setMach_pc (v : Word) : (s.setMach v).pc = s.pc := rfl
@[simp] theorem State.setMach_ldst (v : Word) : (s.setMach v).ldst = s.ldst := rfl
@[simp] theorem State.setMach_sleeping (v : Word) : (s.setMach v).sleeping = s.sleeping := rfl
@[simp] theorem State.setMach_ds (v : Word) : (s.setMach v).ds = s.ds := rfl
@[simp] theorem State.setMach_mark (v : Word) : (s.setMach v).mark = s.mark := rfl
@[simp] theorem State.setMach_expevt (v : Word) : (s.setMach v).expevt = s.expevt := rfl
@[simp] theorem State.setMach_intevt (v : Word) : (s.setMach v).intevt = s.intevt := rfl
@[simp] theorem State.setMach_tra (v : Word) : (s.setMach v).tra = s.tra := rfl
@[simp] theorem State.setMach_tea (v : Word) : (s.setMach v).tea = s.tea := rfl
@[simp] theorem State.setMach_mem (v : Word) : (s.setMach v).mem = s.mem := rfl
@[simp] theorem State.setMach_report (v : Word) : (s.setMach v).report = s.report := rfl
@[simp] theorem State.setMach_events (v : Word) : (s.setMach v).events = s.events := rfl
@[simp] theorem State.setMach_draws (v : Word) : (s.setMach v).draws = s.draws := rfl
@[simp] theorem State.setMach_ticks (v : Word) : (s.setMach v).ticks = s.ticks := rfl

@[simp] theorem State.setMacl_params (v : Word) : (s.setMacl v).params = s.params := rfl
@[simp] theorem State.setMacl_b0 (v : Word) : (s.setMacl v).b0 = s.b0 := rfl
@[simp] theorem State.setMacl_b1 (v : Word) : (s.setMacl v).b1 = s.b1 := rfl
@[simp] theorem State.setMacl_rh (v : Word) : (s.setMacl v).rh = s.rh := rfl
@[simp] theorem State.setMacl_sr (v : Word) : (s.setMacl v).sr = s.sr := rfl
@[simp] theorem State.setMacl_gbr (v : Word) : (s.setMacl v).gbr = s.gbr := rfl
@[simp] theorem State.setMacl_vbr (v : Word) : (s.setMacl v).vbr = s.vbr := rfl
@[simp] theorem State.setMacl_sgr (v : Word) : (s.setMacl v).sgr = s.sgr := rfl
@[simp] theorem State.setMacl_ssr (v : Word) : (s.setMacl v).ssr = s.ssr := rfl
@[simp] theorem State.setMacl_spc (v : Word) : (s.setMacl v).spc = s.spc := rfl
@[simp] theorem State.setMacl_dbr (v : Word) : (s.setMacl v).dbr = s.dbr := rfl
@[simp] theorem State.setMacl_pr (v : Word) : (s.setMacl v).pr = s.pr := rfl
@[simp] theorem State.setMacl_mac (v : Word) : (s.setMacl v).mac = s.mach ++ v := rfl
@[simp] theorem State.setMacl_pc (v : Word) : (s.setMacl v).pc = s.pc := rfl
@[simp] theorem State.setMacl_ldst (v : Word) : (s.setMacl v).ldst = s.ldst := rfl
@[simp] theorem State.setMacl_sleeping (v : Word) : (s.setMacl v).sleeping = s.sleeping := rfl
@[simp] theorem State.setMacl_ds (v : Word) : (s.setMacl v).ds = s.ds := rfl
@[simp] theorem State.setMacl_mark (v : Word) : (s.setMacl v).mark = s.mark := rfl
@[simp] theorem State.setMacl_expevt (v : Word) : (s.setMacl v).expevt = s.expevt := rfl
@[simp] theorem State.setMacl_intevt (v : Word) : (s.setMacl v).intevt = s.intevt := rfl
@[simp] theorem State.setMacl_tra (v : Word) : (s.setMacl v).tra = s.tra := rfl
@[simp] theorem State.setMacl_tea (v : Word) : (s.setMacl v).tea = s.tea := rfl
@[simp] theorem State.setMacl_mem (v : Word) : (s.setMacl v).mem = s.mem := rfl
@[simp] theorem State.setMacl_report (v : Word) : (s.setMacl v).report = s.report := rfl
@[simp] theorem State.setMacl_events (v : Word) : (s.setMacl v).events = s.events := rfl
@[simp] theorem State.setMacl_draws (v : Word) : (s.setMacl v).draws = s.draws := rfl
@[simp] theorem State.setMacl_ticks (v : Word) : (s.setMacl v).ticks = s.ticks := rfl

@[simp] theorem State.advance_params : (s.advance).params = s.params := rfl
@[simp] theorem State.advance_b0 : (s.advance).b0 = s.b0 := rfl
@[simp] theorem State.advance_b1 : (s.advance).b1 = s.b1 := rfl
@[simp] theorem State.advance_rh : (s.advance).rh = s.rh := rfl
@[simp] theorem State.advance_sr : (s.advance).sr = s.sr := rfl
@[simp] theorem State.advance_gbr : (s.advance).gbr = s.gbr := rfl
@[simp] theorem State.advance_vbr : (s.advance).vbr = s.vbr := rfl
@[simp] theorem State.advance_sgr : (s.advance).sgr = s.sgr := rfl
@[simp] theorem State.advance_ssr : (s.advance).ssr = s.ssr := rfl
@[simp] theorem State.advance_spc : (s.advance).spc = s.spc := rfl
@[simp] theorem State.advance_dbr : (s.advance).dbr = s.dbr := rfl
@[simp] theorem State.advance_pr : (s.advance).pr = s.pr := rfl
@[simp] theorem State.advance_mac : (s.advance).mac = s.mac := rfl
@[simp] theorem State.advance_pc : (s.advance).pc = s.pc + 2 := rfl
@[simp] theorem State.advance_ldst : (s.advance).ldst = s.ldst := rfl
@[simp] theorem State.advance_sleeping : (s.advance).sleeping = s.sleeping := rfl
@[simp] theorem State.advance_ds : (s.advance).ds = s.ds := rfl
@[simp] theorem State.advance_mark : (s.advance).mark = s.mark := rfl
@[simp] theorem State.advance_expevt : (s.advance).expevt = s.expevt := rfl
@[simp] theorem State.advance_intevt : (s.advance).intevt = s.intevt := rfl
@[simp] theorem State.advance_tra : (s.advance).tra = s.tra := rfl
@[simp] theorem State.advance_tea : (s.advance).tea = s.tea := rfl
@[simp] theorem State.advance_mem : (s.advance).mem = s.mem := rfl
@[simp] theorem State.advance_report : (s.advance).report = s.report := rfl
@[simp] theorem State.advance_events : (s.advance).events = s.events := rfl
@[simp] theorem State.advance_draws : (s.advance).draws = s.draws := rfl
@[simp] theorem State.advance_ticks : (s.advance).ticks = s.ticks := rfl

@[simp] theorem State.setByte_params (a : Word) (v : Byte) : (s.setByte a v).params = s.params := rfl
@[simp] theorem State.setByte_b0 (a : Word) (v : Byte) : (s.setByte a v).b0 = s.b0 := rfl
@[simp] theorem State.setByte_b1 (a : Word) (v : Byte) : (s.setByte a v).b1 = s.b1 := rfl
@[simp] theorem State.setByte_rh (a : Word) (v : Byte) : (s.setByte a v).rh = s.rh := rfl
@[simp] theorem State.setByte_sr (a : Word) (v : Byte) : (s.setByte a v).sr = s.sr := rfl
@[simp] theorem State.setByte_gbr (a : Word) (v : Byte) : (s.setByte a v).gbr = s.gbr := rfl
@[simp] theorem State.setByte_vbr (a : Word) (v : Byte) : (s.setByte a v).vbr = s.vbr := rfl
@[simp] theorem State.setByte_sgr (a : Word) (v : Byte) : (s.setByte a v).sgr = s.sgr := rfl
@[simp] theorem State.setByte_ssr (a : Word) (v : Byte) : (s.setByte a v).ssr = s.ssr := rfl
@[simp] theorem State.setByte_spc (a : Word) (v : Byte) : (s.setByte a v).spc = s.spc := rfl
@[simp] theorem State.setByte_dbr (a : Word) (v : Byte) : (s.setByte a v).dbr = s.dbr := rfl
@[simp] theorem State.setByte_pr (a : Word) (v : Byte) : (s.setByte a v).pr = s.pr := rfl
@[simp] theorem State.setByte_mac (a : Word) (v : Byte) : (s.setByte a v).mac = s.mac := rfl
@[simp] theorem State.setByte_pc (a : Word) (v : Byte) : (s.setByte a v).pc = s.pc := rfl
@[simp] theorem State.setByte_ldst (a : Word) (v : Byte) : (s.setByte a v).ldst = s.ldst := rfl
@[simp] theorem State.setByte_sleeping (a : Word) (v : Byte) : (s.setByte a v).sleeping = s.sleeping := rfl
@[simp] theorem State.setByte_ds (a : Word) (v : Byte) : (s.setByte a v).ds = s.ds := rfl
@[simp] theorem State.setByte_mark (a : Word) (v : Byte) : (s.setByte a v).mark = s.mark := rfl
@[simp] theorem State.setByte_expevt (a : Word) (v : Byte) : (s.setByte a v).expevt = s.expevt := rfl
@[simp] theorem State.setByte_intevt (a : Word) (v : Byte) : (s.setByte a v).intevt = s.intevt := rfl
@[simp] theorem State.setByte_tra (a : Word) (v : Byte) : (s.setByte a v).tra = s.tra := rfl
@[simp] theorem State.setByte_tea (a : Word) (v : Byte) : (s.setByte a v).tea = s.tea := rfl
@[simp] theorem State.setByte_mem (a : Word) (v : Byte) : (s.setByte a v).mem = portWrite s.params s.mem a v := rfl
@[simp] theorem State.setByte_report (a : Word) (v : Byte) : (s.setByte a v).report = s.report := rfl
@[simp] theorem State.setByte_events (a : Word) (v : Byte) : (s.setByte a v).events = s.events := rfl
@[simp] theorem State.setByte_draws (a : Word) (v : Byte) : (s.setByte a v).draws = s.draws := rfl
@[simp] theorem State.setByte_ticks (a : Word) (v : Byte) : (s.setByte a v).ticks = s.ticks := rfl

@[simp] theorem State.memWrite_params (w : Width) (a v : Word) : (s.memWrite w a v).params = s.params := by unfold State.memWrite; split <;> simp only [State.setByte_params]
@[simp] theorem State.memWrite_b0 (w : Width) (a v : Word) : (s.memWrite w a v).b0 = s.b0 := by unfold State.memWrite; split <;> simp only [State.setByte_b0]
@[simp] theorem State.memWrite_b1 (w : Width) (a v : Word) : (s.memWrite w a v).b1 = s.b1 := by unfold State.memWrite; split <;> simp only [State.setByte_b1]
@[simp] theorem State.memWrite_rh (w : Width) (a v : Word) : (s.memWrite w a v).rh = s.rh := by unfold State.memWrite; split <;> simp only [State.setByte_rh]
@[simp] theorem State.memWrite_sr (w : Width) (a v : Word) : (s.memWrite w a v).sr = s.sr := by unfold State.memWrite; split <;> simp only [State.setByte_sr]
@[simp] theorem State.memWrite_gbr (w : Width) (a v : Word) : (s.memWrite w a v).gbr = s.gbr := by unfold State.memWrite; split <;> simp only [State.setByte_gbr]
@[simp] theorem State.memWrite_vbr (w : Width) (a v : Word) : (s.memWrite w a v).vbr = s.vbr := by unfold State.memWrite; split <;> simp only [State.setByte_vbr]
@[simp] theorem State.memWrite_sgr (w : Width) (a v : Word) : (s.memWrite w a v).sgr = s.sgr := by unfold State.memWrite; split <;> simp only [State.setByte_sgr]
@[simp] theorem State.memWrite_ssr (w : Width) (a v : Word) : (s.memWrite w a v).ssr = s.ssr := by unfold State.memWrite; split <;> simp only [State.setByte_ssr]
@[simp] theorem State.memWrite_spc (w : Width) (a v : Word) : (s.memWrite w a v).spc = s.spc := by unfold State.memWrite; split <;> simp only [State.setByte_spc]
@[simp] theorem State.memWrite_dbr (w : Width) (a v : Word) : (s.memWrite w a v).dbr = s.dbr := by unfold State.memWrite; split <;> simp only [State.setByte_dbr]
@[simp] theorem State.memWrite_pr (w : Width) (a v : Word) : (s.memWrite w a v).pr = s.pr := by unfold State.memWrite; split <;> simp only [State.setByte_pr]
@[simp] theorem State.memWrite_mac (w : Width) (a v : Word) : (s.memWrite w a v).mac = s.mac := by unfold State.memWrite; split <;> simp only [State.setByte_mac]
@[simp] theorem State.memWrite_pc (w : Width) (a v : Word) : (s.memWrite w a v).pc = s.pc := by unfold State.memWrite; split <;> simp only [State.setByte_pc]
@[simp] theorem State.memWrite_ldst (w : Width) (a v : Word) : (s.memWrite w a v).ldst = s.ldst := by unfold State.memWrite; split <;> simp only [State.setByte_ldst]
@[simp] theorem State.memWrite_sleeping (w : Width) (a v : Word) : (s.memWrite w a v).sleeping = s.sleeping := by unfold State.memWrite; split <;> simp only [State.setByte_sleeping]
@[simp] theorem State.memWrite_ds (w : Width) (a v : Word) : (s.memWrite w a v).ds = s.ds := by unfold State.memWrite; split <;> simp only [State.setByte_ds]
@[simp] theorem State.memWrite_mark (w : Width) (a v : Word) : (s.memWrite w a v).mark = s.mark := by unfold State.memWrite; split <;> simp only [State.setByte_mark]
@[simp] theorem State.memWrite_expevt (w : Width) (a v : Word) : (s.memWrite w a v).expevt = s.expevt := by unfold State.memWrite; split <;> simp only [State.setByte_expevt]
@[simp] theorem State.memWrite_intevt (w : Width) (a v : Word) : (s.memWrite w a v).intevt = s.intevt := by unfold State.memWrite; split <;> simp only [State.setByte_intevt]
@[simp] theorem State.memWrite_tra (w : Width) (a v : Word) : (s.memWrite w a v).tra = s.tra := by unfold State.memWrite; split <;> simp only [State.setByte_tra]
@[simp] theorem State.memWrite_tea (w : Width) (a v : Word) : (s.memWrite w a v).tea = s.tea := by unfold State.memWrite; split <;> simp only [State.setByte_tea]
@[simp] theorem State.memWrite_report (w : Width) (a v : Word) : (s.memWrite w a v).report = s.report := by unfold State.memWrite; split <;> simp only [State.setByte_report]
@[simp] theorem State.memWrite_events (w : Width) (a v : Word) : (s.memWrite w a v).events = s.events := by unfold State.memWrite; split <;> simp only [State.setByte_events]
@[simp] theorem State.memWrite_draws (w : Width) (a v : Word) : (s.memWrite w a v).draws = s.draws := by unfold State.memWrite; split <;> simp only [State.setByte_draws]
@[simp] theorem State.memWrite_ticks (w : Width) (a v : Word) : (s.memWrite w a v).ticks = s.ticks := by unfold State.memWrite; split <;> simp only [State.setByte_ticks]

@[simp] theorem State.enterVector_params (p o : Word) : (s.enterVector p o).params = s.params := rfl
@[simp] theorem State.enterVector_b0 (p o : Word) : (s.enterVector p o).b0 = s.b0 := rfl
@[simp] theorem State.enterVector_b1 (p o : Word) : (s.enterVector p o).b1 = s.b1 := rfl
@[simp] theorem State.enterVector_rh (p o : Word) : (s.enterVector p o).rh = s.rh := rfl
@[simp] theorem State.enterVector_sr (p o : Word) : (s.enterVector p o).sr = s.sr ||| entryBits := rfl
@[simp] theorem State.enterVector_gbr (p o : Word) : (s.enterVector p o).gbr = s.gbr := rfl
@[simp] theorem State.enterVector_vbr (p o : Word) : (s.enterVector p o).vbr = s.vbr := rfl
@[simp] theorem State.enterVector_sgr (p o : Word) : (s.enterVector p o).sgr = s.r 15 := rfl
@[simp] theorem State.enterVector_ssr (p o : Word) : (s.enterVector p o).ssr = s.sr := rfl
@[simp] theorem State.enterVector_spc (p o : Word) : (s.enterVector p o).spc = p := rfl
@[simp] theorem State.enterVector_dbr (p o : Word) : (s.enterVector p o).dbr = s.dbr := rfl
@[simp] theorem State.enterVector_pr (p o : Word) : (s.enterVector p o).pr = s.pr := rfl
@[simp] theorem State.enterVector_mac (p o : Word) : (s.enterVector p o).mac = s.mac := rfl
@[simp] theorem State.enterVector_pc (p o : Word) : (s.enterVector p o).pc = s.vbr + o := rfl
@[simp] theorem State.enterVector_ldst (p o : Word) : (s.enterVector p o).ldst = false := rfl
@[simp] theorem State.enterVector_sleeping (p o : Word) : (s.enterVector p o).sleeping = s.sleeping := rfl
@[simp] theorem State.enterVector_ds (p o : Word) : (s.enterVector p o).ds = s.ds := rfl
@[simp] theorem State.enterVector_mark (p o : Word) : (s.enterVector p o).mark = s.mark := rfl
@[simp] theorem State.enterVector_expevt (p o : Word) : (s.enterVector p o).expevt = s.expevt := rfl
@[simp] theorem State.enterVector_intevt (p o : Word) : (s.enterVector p o).intevt = s.intevt := rfl
@[simp] theorem State.enterVector_tra (p o : Word) : (s.enterVector p o).tra = s.tra := rfl
@[simp] theorem State.enterVector_tea (p o : Word) : (s.enterVector p o).tea = s.tea := rfl
@[simp] theorem State.enterVector_mem (p o : Word) : (s.enterVector p o).mem = s.mem := rfl
@[simp] theorem State.enterVector_report (p o : Word) : (s.enterVector p o).report = s.report := rfl
@[simp] theorem State.enterVector_events (p o : Word) : (s.enterVector p o).events = s.events := rfl
@[simp] theorem State.enterVector_draws (p o : Word) : (s.enterVector p o).draws = s.draws := rfl
@[simp] theorem State.enterVector_ticks (p o : Word) : (s.enterVector p o).ticks = s.ticks := rfl

@[simp] theorem State.recordCause_params (e : Exc) : (s.recordCause e).params = s.params := by cases e <;> rfl
@[simp] theorem State.recordCause_b0 (e : Exc) : (s.recordCause e).b0 = s.b0 := by cases e <;> rfl
@[simp] theorem State.recordCause_b1 (e : Exc) : (s.recordCause e).b1 = s.b1 := by cases e <;> rfl
@[simp] theorem State.recordCause_rh (e : Exc) : (s.recordCause e).rh = s.rh := by cases e <;> rfl
@[simp] theorem State.recordCause_sr (e : Exc) : (s.recordCause e).sr = s.sr := by cases e <;> rfl
@[simp] theorem State.recordCause_gbr (e : Exc) : (s.recordCause e).gbr = s.gbr := by cases e <;> rfl
@[simp] theorem State.recordCause_vbr (e : Exc) : (s.recordCause e).vbr = s.vbr := by cases e <;> rfl
@[simp] theorem State.recordCause_sgr (e : Exc) : (s.recordCause e).sgr = s.sgr := by cases e <;> rfl
@[simp] theorem State.recordCause_ssr (e : Exc) : (s.recordCause e).ssr = s.ssr := by cases e <;> rfl
@[simp] theorem State.recordCause_spc (e : Exc) : (s.recordCause e).spc = s.spc := by cases e <;> rfl
@[simp] theorem State.recordCause_dbr (e : Exc) : (s.recordCause e).dbr = s.dbr := by cases e <;> rfl
@[simp] theorem State.recordCause_pr (e : Exc) : (s.recordCause e).pr = s.pr := by cases e <;> rfl
@[simp] theorem State.recordCause_mac (e : Exc) : (s.recordCause e).mac = s.mac := by cases e <;> rfl
@[simp] theorem State.recordCause_pc (e : Exc) : (s.recordCause e).pc = s.pc := by cases e <;> rfl
@[simp] theorem State.recordCause_ldst (e : Exc) : (s.recordCause e).ldst = s.ldst := by cases e <;> rfl
@[simp] theorem State.recordCause_sleeping (e : Exc) : (s.recordCause e).sleeping = s.sleeping := by cases e <;> rfl
@[simp] theorem State.recordCause_ds (e : Exc) : (s.recordCause e).ds = s.ds := by cases e <;> rfl
@[simp] theorem State.recordCause_mark (e : Exc) : (s.recordCause e).mark = s.mark := by cases e <;> rfl
@[simp] theorem State.recordCause_expevt (e : Exc) : (s.recordCause e).expevt = e.code := by cases e <;> rfl
@[simp] theorem State.recordCause_intevt (e : Exc) : (s.recordCause e).intevt = s.intevt := by cases e <;> rfl
@[simp] theorem State.recordCause_mem (e : Exc) : (s.recordCause e).mem = s.mem := by cases e <;> rfl
@[simp] theorem State.recordCause_report (e : Exc) : (s.recordCause e).report = s.report := by cases e <;> rfl
@[simp] theorem State.recordCause_events (e : Exc) : (s.recordCause e).events = s.events := by cases e <;> rfl
@[simp] theorem State.recordCause_draws (e : Exc) : (s.recordCause e).draws = s.draws := by cases e <;> rfl
@[simp] theorem State.recordCause_ticks (e : Exc) : (s.recordCause e).ticks = s.ticks := by cases e <;> rfl

end Fields

/-! ## Bits of SR -/

theorem getLsbD_putBit (w : Word) (k : Nat) (v : Bool) (j : Nat) (hk : k < 32) :
    (putBit w k v).getLsbD j = if j = k then v else w.getLsbD j := by
  unfold putBit
  by_cases hj : j < 32
  · by_cases hjk : j = k
    · subst hjk; cases v <;> simp [hj]
    · cases v <;> simp [hj, hjk]
  · have : (putBit w k v).getLsbD j = false := BitVec.getLsbD_of_ge _ _ (by omega)
    have hw : w.getLsbD j = false := BitVec.getLsbD_of_ge _ _ (by omega)
    have hjk : j ≠ k := by omega
    unfold putBit at this
    rw [this, hw, if_neg hjk]

/-- A written bit reads as written. -/
theorem getLsbD_putBit_same (w : Word) (k : Nat) (v : Bool) (hk : k < 32) : (putBit w k v).getLsbD k = v := by
  rw [getLsbD_putBit _ _ _ _ hk, if_pos rfl]

/-- Every other bit reads as before (R36). -/
theorem getLsbD_putBit_other (w : Word) (k : Nat) (v : Bool) (j : Nat) (hk : k < 32) (hj : j ≠ k) :
    (putBit w k v).getLsbD j = w.getLsbD j := by
  rw [getLsbD_putBit _ _ _ _ hk, if_neg hj]

/-- Reserved bits stay 0 under a write of a bit inside SR_MASK. -/
theorem putBit_reserved (w : Word) (k : Nat) (v : Bool) (hk : k < 32) (hm : srMask.getLsbD k = true)
    (h : w &&& ~~~srMask = 0) : putBit w k v &&& ~~~srMask = 0 := by
  apply BitVec.eq_of_getLsbD_eq
  intro i hi
  have h' := congrArg (fun x : Word => x.getLsbD i) h
  simp only [BitVec.getLsbD_and, BitVec.getLsbD_not] at h' ⊢
  rw [getLsbD_putBit _ _ _ _ hk]
  split
  · next e => subst e; simp [hm]
  · exact h'

/-! ## Bank selection and the flag views -/

section Views
variable (s : State)

/-- The parameters, MD and RB decide the selected bank (R33). -/
theorem State.sel_congr {s u : State} (hp : u.params = s.params) (hm : u.md = s.md) (hr : u.rb = s.rb) :
    u.sel = s.sel := by
  unfold State.sel; rw [hp, hm, hr]

@[simp] theorem State.setT_t (v : Bool) : (s.setT v).t = v := getLsbD_putBit_same _ _ _ (by decide)
@[simp] theorem State.setT_s (v : Bool) : (s.setT v).s = s.s := getLsbD_putBit_other _ _ _ _ (by decide) (by decide)
@[simp] theorem State.setT_q (v : Bool) : (s.setT v).q = s.q := getLsbD_putBit_other _ _ _ _ (by decide) (by decide)
@[simp] theorem State.setT_m (v : Bool) : (s.setT v).m = s.m := getLsbD_putBit_other _ _ _ _ (by decide) (by decide)
@[simp] theorem State.setT_bl (v : Bool) : (s.setT v).bl = s.bl := getLsbD_putBit_other _ _ _ _ (by decide) (by decide)
@[simp] theorem State.setT_rb (v : Bool) : (s.setT v).rb = s.rb := getLsbD_putBit_other _ _ _ _ (by decide) (by decide)
@[simp] theorem State.setT_md (v : Bool) : (s.setT v).md = s.md := getLsbD_putBit_other _ _ _ _ (by decide) (by decide)
@[simp] theorem State.setT_sel (v : Bool) : (s.setT v).sel = s.sel :=
  State.sel_congr rfl (State.setT_md s v) (State.setT_rb s v)
@[simp] theorem State.setS_t (v : Bool) : (s.setS v).t = s.t := getLsbD_putBit_other _ _ _ _ (by decide) (by decide)
@[simp] theorem State.setS_s (v : Bool) : (s.setS v).s = v := getLsbD_putBit_same _ _ _ (by decide)
@[simp] theorem State.setS_q (v : Bool) : (s.setS v).q = s.q := getLsbD_putBit_other _ _ _ _ (by decide) (by decide)
@[simp] theorem State.setS_m (v : Bool) : (s.setS v).m = s.m := getLsbD_putBit_other _ _ _ _ (by decide) (by decide)
@[simp] theorem State.setS_bl (v : Bool) : (s.setS v).bl = s.bl := getLsbD_putBit_other _ _ _ _ (by decide) (by decide)
@[simp] theorem State.setS_rb (v : Bool) : (s.setS v).rb = s.rb := getLsbD_putBit_other _ _ _ _ (by decide) (by decide)
@[simp] theorem State.setS_md (v : Bool) : (s.setS v).md = s.md := getLsbD_putBit_other _ _ _ _ (by decide) (by decide)
@[simp] theorem State.setS_sel (v : Bool) : (s.setS v).sel = s.sel :=
  State.sel_congr rfl (State.setS_md s v) (State.setS_rb s v)
@[simp] theorem State.setQ_t (v : Bool) : (s.setQ v).t = s.t := getLsbD_putBit_other _ _ _ _ (by decide) (by decide)
@[simp] theorem State.setQ_s (v : Bool) : (s.setQ v).s = s.s := getLsbD_putBit_other _ _ _ _ (by decide) (by decide)
@[simp] theorem State.setQ_q (v : Bool) : (s.setQ v).q = v := getLsbD_putBit_same _ _ _ (by decide)
@[simp] theorem State.setQ_m (v : Bool) : (s.setQ v).m = s.m := getLsbD_putBit_other _ _ _ _ (by decide) (by decide)
@[simp] theorem State.setQ_bl (v : Bool) : (s.setQ v).bl = s.bl := getLsbD_putBit_other _ _ _ _ (by decide) (by decide)
@[simp] theorem State.setQ_rb (v : Bool) : (s.setQ v).rb = s.rb := getLsbD_putBit_other _ _ _ _ (by decide) (by decide)
@[simp] theorem State.setQ_md (v : Bool) : (s.setQ v).md = s.md := getLsbD_putBit_other _ _ _ _ (by decide) (by decide)
@[simp] theorem State.setQ_sel (v : Bool) : (s.setQ v).sel = s.sel :=
  State.sel_congr rfl (State.setQ_md s v) (State.setQ_rb s v)
@[simp] theorem State.setM_t (v : Bool) : (s.setM v).t = s.t := getLsbD_putBit_other _ _ _ _ (by decide) (by decide)
@[simp] theorem State.setM_s (v : Bool) : (s.setM v).s = s.s := getLsbD_putBit_other _ _ _ _ (by decide) (by decide)
@[simp] theorem State.setM_q (v : Bool) : (s.setM v).q = s.q := getLsbD_putBit_other _ _ _ _ (by decide) (by decide)
@[simp] theorem State.setM_m (v : Bool) : (s.setM v).m = v := getLsbD_putBit_same _ _ _ (by decide)
@[simp] theorem State.setM_bl (v : Bool) : (s.setM v).bl = s.bl := getLsbD_putBit_other _ _ _ _ (by decide) (by decide)
@[simp] theorem State.setM_rb (v : Bool) : (s.setM v).rb = s.rb := getLsbD_putBit_other _ _ _ _ (by decide) (by decide)
@[simp] theorem State.setM_md (v : Bool) : (s.setM v).md = s.md := getLsbD_putBit_other _ _ _ _ (by decide) (by decide)
@[simp] theorem State.setM_sel (v : Bool) : (s.setM v).sel = s.sel :=
  State.sel_congr rfl (State.setM_md s v) (State.setM_rb s v)

@[simp] theorem State.setR_t (i : Reg) (v : Word) : (s.setR i v).t = s.t := congrArg (·.getLsbD 0) (State.setR_sr s i v)
@[simp] theorem State.setR_s (i : Reg) (v : Word) : (s.setR i v).s = s.s := congrArg (·.getLsbD 1) (State.setR_sr s i v)
@[simp] theorem State.setR_q (i : Reg) (v : Word) : (s.setR i v).q = s.q := congrArg (·.getLsbD 8) (State.setR_sr s i v)
@[simp] theorem State.setR_m (i : Reg) (v : Word) : (s.setR i v).m = s.m := congrArg (·.getLsbD 9) (State.setR_sr s i v)
@[simp] theorem State.setR_bl (i : Reg) (v : Word) : (s.setR i v).bl = s.bl := congrArg (·.getLsbD 28) (State.setR_sr s i v)
@[simp] theorem State.setR_rb (i : Reg) (v : Word) : (s.setR i v).rb = s.rb := congrArg (·.getLsbD 29) (State.setR_sr s i v)
@[simp] theorem State.setR_md (i : Reg) (v : Word) : (s.setR i v).md = s.md := congrArg (·.getLsbD 30) (State.setR_sr s i v)
@[simp] theorem State.setR_sel (i : Reg) (v : Word) : (s.setR i v).sel = s.sel :=
  State.sel_congr (State.setR_params s i v) (State.setR_md s i v) (State.setR_rb s i v)
@[simp] theorem State.setRBank_t (b : BankReg) (v : Word) : (s.setRBank b v).t = s.t := congrArg (·.getLsbD 0) (State.setRBank_sr s b v)
@[simp] theorem State.setRBank_s (b : BankReg) (v : Word) : (s.setRBank b v).s = s.s := congrArg (·.getLsbD 1) (State.setRBank_sr s b v)
@[simp] theorem State.setRBank_q (b : BankReg) (v : Word) : (s.setRBank b v).q = s.q := congrArg (·.getLsbD 8) (State.setRBank_sr s b v)
@[simp] theorem State.setRBank_m (b : BankReg) (v : Word) : (s.setRBank b v).m = s.m := congrArg (·.getLsbD 9) (State.setRBank_sr s b v)
@[simp] theorem State.setRBank_bl (b : BankReg) (v : Word) : (s.setRBank b v).bl = s.bl := congrArg (·.getLsbD 28) (State.setRBank_sr s b v)
@[simp] theorem State.setRBank_rb (b : BankReg) (v : Word) : (s.setRBank b v).rb = s.rb := congrArg (·.getLsbD 29) (State.setRBank_sr s b v)
@[simp] theorem State.setRBank_md (b : BankReg) (v : Word) : (s.setRBank b v).md = s.md := congrArg (·.getLsbD 30) (State.setRBank_sr s b v)
@[simp] theorem State.setRBank_sel (b : BankReg) (v : Word) : (s.setRBank b v).sel = s.sel :=
  State.sel_congr (State.setRBank_params s b v) (State.setRBank_md s b v) (State.setRBank_rb s b v)
@[simp] theorem State.setMach_t (v : Word) : (s.setMach v).t = s.t := congrArg (·.getLsbD 0) (State.setMach_sr s v)
@[simp] theorem State.setMach_s (v : Word) : (s.setMach v).s = s.s := congrArg (·.getLsbD 1) (State.setMach_sr s v)
@[simp] theorem State.setMach_q (v : Word) : (s.setMach v).q = s.q := congrArg (·.getLsbD 8) (State.setMach_sr s v)
@[simp] theorem State.setMach_m (v : Word) : (s.setMach v).m = s.m := congrArg (·.getLsbD 9) (State.setMach_sr s v)
@[simp] theorem State.setMach_bl (v : Word) : (s.setMach v).bl = s.bl := congrArg (·.getLsbD 28) (State.setMach_sr s v)
@[simp] theorem State.setMach_rb (v : Word) : (s.setMach v).rb = s.rb := congrArg (·.getLsbD 29) (State.setMach_sr s v)
@[simp] theorem State.setMach_md (v : Word) : (s.setMach v).md = s.md := congrArg (·.getLsbD 30) (State.setMach_sr s v)
@[simp] theorem State.setMach_sel (v : Word) : (s.setMach v).sel = s.sel :=
  State.sel_congr (State.setMach_params s v) (State.setMach_md s v) (State.setMach_rb s v)
@[simp] theorem State.setMacl_t (v : Word) : (s.setMacl v).t = s.t := congrArg (·.getLsbD 0) (State.setMacl_sr s v)
@[simp] theorem State.setMacl_s (v : Word) : (s.setMacl v).s = s.s := congrArg (·.getLsbD 1) (State.setMacl_sr s v)
@[simp] theorem State.setMacl_q (v : Word) : (s.setMacl v).q = s.q := congrArg (·.getLsbD 8) (State.setMacl_sr s v)
@[simp] theorem State.setMacl_m (v : Word) : (s.setMacl v).m = s.m := congrArg (·.getLsbD 9) (State.setMacl_sr s v)
@[simp] theorem State.setMacl_bl (v : Word) : (s.setMacl v).bl = s.bl := congrArg (·.getLsbD 28) (State.setMacl_sr s v)
@[simp] theorem State.setMacl_rb (v : Word) : (s.setMacl v).rb = s.rb := congrArg (·.getLsbD 29) (State.setMacl_sr s v)
@[simp] theorem State.setMacl_md (v : Word) : (s.setMacl v).md = s.md := congrArg (·.getLsbD 30) (State.setMacl_sr s v)
@[simp] theorem State.setMacl_sel (v : Word) : (s.setMacl v).sel = s.sel :=
  State.sel_congr (State.setMacl_params s v) (State.setMacl_md s v) (State.setMacl_rb s v)
@[simp] theorem State.advance_t : (s.advance).t = s.t := congrArg (·.getLsbD 0) (State.advance_sr s )
@[simp] theorem State.advance_s : (s.advance).s = s.s := congrArg (·.getLsbD 1) (State.advance_sr s )
@[simp] theorem State.advance_q : (s.advance).q = s.q := congrArg (·.getLsbD 8) (State.advance_sr s )
@[simp] theorem State.advance_m : (s.advance).m = s.m := congrArg (·.getLsbD 9) (State.advance_sr s )
@[simp] theorem State.advance_bl : (s.advance).bl = s.bl := congrArg (·.getLsbD 28) (State.advance_sr s )
@[simp] theorem State.advance_rb : (s.advance).rb = s.rb := congrArg (·.getLsbD 29) (State.advance_sr s )
@[simp] theorem State.advance_md : (s.advance).md = s.md := congrArg (·.getLsbD 30) (State.advance_sr s )
@[simp] theorem State.advance_sel : (s.advance).sel = s.sel :=
  State.sel_congr (State.advance_params s ) (State.advance_md s ) (State.advance_rb s )
@[simp] theorem State.setByte_t (a : Word) (v : Byte) : (s.setByte a v).t = s.t := congrArg (·.getLsbD 0) (State.setByte_sr s a v)
@[simp] theorem State.setByte_s (a : Word) (v : Byte) : (s.setByte a v).s = s.s := congrArg (·.getLsbD 1) (State.setByte_sr s a v)
@[simp] theorem State.setByte_q (a : Word) (v : Byte) : (s.setByte a v).q = s.q := congrArg (·.getLsbD 8) (State.setByte_sr s a v)
@[simp] theorem State.setByte_m (a : Word) (v : Byte) : (s.setByte a v).m = s.m := congrArg (·.getLsbD 9) (State.setByte_sr s a v)
@[simp] theorem State.setByte_bl (a : Word) (v : Byte) : (s.setByte a v).bl = s.bl := congrArg (·.getLsbD 28) (State.setByte_sr s a v)
@[simp] theorem State.setByte_rb (a : Word) (v : Byte) : (s.setByte a v).rb = s.rb := congrArg (·.getLsbD 29) (State.setByte_sr s a v)
@[simp] theorem State.setByte_md (a : Word) (v : Byte) : (s.setByte a v).md = s.md := congrArg (·.getLsbD 30) (State.setByte_sr s a v)
@[simp] theorem State.setByte_sel (a : Word) (v : Byte) : (s.setByte a v).sel = s.sel :=
  State.sel_congr (State.setByte_params s a v) (State.setByte_md s a v) (State.setByte_rb s a v)
@[simp] theorem State.memWrite_t (w : Width) (a v : Word) : (s.memWrite w a v).t = s.t := congrArg (·.getLsbD 0) (State.memWrite_sr s w a v)
@[simp] theorem State.memWrite_s (w : Width) (a v : Word) : (s.memWrite w a v).s = s.s := congrArg (·.getLsbD 1) (State.memWrite_sr s w a v)
@[simp] theorem State.memWrite_q (w : Width) (a v : Word) : (s.memWrite w a v).q = s.q := congrArg (·.getLsbD 8) (State.memWrite_sr s w a v)
@[simp] theorem State.memWrite_m (w : Width) (a v : Word) : (s.memWrite w a v).m = s.m := congrArg (·.getLsbD 9) (State.memWrite_sr s w a v)
@[simp] theorem State.memWrite_bl (w : Width) (a v : Word) : (s.memWrite w a v).bl = s.bl := congrArg (·.getLsbD 28) (State.memWrite_sr s w a v)
@[simp] theorem State.memWrite_rb (w : Width) (a v : Word) : (s.memWrite w a v).rb = s.rb := congrArg (·.getLsbD 29) (State.memWrite_sr s w a v)
@[simp] theorem State.memWrite_md (w : Width) (a v : Word) : (s.memWrite w a v).md = s.md := congrArg (·.getLsbD 30) (State.memWrite_sr s w a v)
@[simp] theorem State.memWrite_sel (w : Width) (a v : Word) : (s.memWrite w a v).sel = s.sel :=
  State.sel_congr (State.memWrite_params s w a v) (State.memWrite_md s w a v) (State.memWrite_rb s w a v)
@[simp] theorem State.recordCause_t (e : Exc) : (s.recordCause e).t = s.t := congrArg (·.getLsbD 0) (State.recordCause_sr s e)
@[simp] theorem State.recordCause_s (e : Exc) : (s.recordCause e).s = s.s := congrArg (·.getLsbD 1) (State.recordCause_sr s e)
@[simp] theorem State.recordCause_q (e : Exc) : (s.recordCause e).q = s.q := congrArg (·.getLsbD 8) (State.recordCause_sr s e)
@[simp] theorem State.recordCause_m (e : Exc) : (s.recordCause e).m = s.m := congrArg (·.getLsbD 9) (State.recordCause_sr s e)
@[simp] theorem State.recordCause_bl (e : Exc) : (s.recordCause e).bl = s.bl := congrArg (·.getLsbD 28) (State.recordCause_sr s e)
@[simp] theorem State.recordCause_rb (e : Exc) : (s.recordCause e).rb = s.rb := congrArg (·.getLsbD 29) (State.recordCause_sr s e)
@[simp] theorem State.recordCause_md (e : Exc) : (s.recordCause e).md = s.md := congrArg (·.getLsbD 30) (State.recordCause_sr s e)
@[simp] theorem State.recordCause_sel (e : Exc) : (s.recordCause e).sel = s.sel :=
  State.sel_congr (State.recordCause_params s e) (State.recordCause_md s e) (State.recordCause_rb s e)

/-! ## General and bank registers -/

/-- Two states with the same banks and the same selection have the same general registers. -/
theorem State.r_congr {s u : State} (h0 : u.b0 = s.b0) (h1 : u.b1 = s.b1) (hh : u.rh = s.rh)
    (hs : u.sel = s.sel) (i : Reg) : u.r i = s.r i := by
  unfold State.r; rw [h0, h1, hh, hs]

theorem State.rBank_congr {s u : State} (h0 : u.b0 = s.b0) (h1 : u.b1 = s.b1)
    (hs : u.sel = s.sel) (b : BankReg) : u.rBank b = s.rBank b := by
  unfold State.rBank; rw [h0, h1, hs]

@[simp] theorem State.setT_r (v : Bool) (i : Reg) : (s.setT v).r i = s.r i :=
  State.r_congr (by simp) (by simp) (by simp) (by simp) i
@[simp] theorem State.setT_rBank (v : Bool) (b' : BankReg) : (s.setT v).rBank b' = s.rBank b' :=
  State.rBank_congr (by simp) (by simp) (by simp) b'
@[simp] theorem State.setS_r (v : Bool) (i : Reg) : (s.setS v).r i = s.r i :=
  State.r_congr (by simp) (by simp) (by simp) (by simp) i
@[simp] theorem State.setS_rBank (v : Bool) (b' : BankReg) : (s.setS v).rBank b' = s.rBank b' :=
  State.rBank_congr (by simp) (by simp) (by simp) b'
@[simp] theorem State.setQ_r (v : Bool) (i : Reg) : (s.setQ v).r i = s.r i :=
  State.r_congr (by simp) (by simp) (by simp) (by simp) i
@[simp] theorem State.setQ_rBank (v : Bool) (b' : BankReg) : (s.setQ v).rBank b' = s.rBank b' :=
  State.rBank_congr (by simp) (by simp) (by simp) b'
@[simp] theorem State.setM_r (v : Bool) (i : Reg) : (s.setM v).r i = s.r i :=
  State.r_congr (by simp) (by simp) (by simp) (by simp) i
@[simp] theorem State.setM_rBank (v : Bool) (b' : BankReg) : (s.setM v).rBank b' = s.rBank b' :=
  State.rBank_congr (by simp) (by simp) (by simp) b'
@[simp] theorem State.setMach_r (v : Word) (i : Reg) : (s.setMach v).r i = s.r i :=
  State.r_congr (by simp) (by simp) (by simp) (by simp) i
@[simp] theorem State.setMach_rBank (v : Word) (b' : BankReg) : (s.setMach v).rBank b' = s.rBank b' :=
  State.rBank_congr (by simp) (by simp) (by simp) b'
@[simp] theorem State.setMacl_r (v : Word) (i : Reg) : (s.setMacl v).r i = s.r i :=
  State.r_congr (by simp) (by simp) (by simp) (by simp) i
@[simp] theorem State.setMacl_rBank (v : Word) (b' : BankReg) : (s.setMacl v).rBank b' = s.rBank b' :=
  State.rBank_congr (by simp) (by simp) (by simp) b'
@[simp] theorem State.setByte_r (a : Word) (v : Byte) (i : Reg) : (s.setByte a v).r i = s.r i :=
  State.r_congr (by simp) (by simp) (by simp) (by simp) i
@[simp] theorem State.setByte_rBank (a : Word) (v : Byte) (b' : BankReg) : (s.setByte a v).rBank b' = s.rBank b' :=
  State.rBank_congr (by simp) (by simp) (by simp) b'
@[simp] theorem State.memWrite_r (w : Width) (a v : Word) (i : Reg) : (s.memWrite w a v).r i = s.r i :=
  State.r_congr (by simp) (by simp) (by simp) (by simp) i
@[simp] theorem State.memWrite_rBank (w : Width) (a v : Word) (b' : BankReg) : (s.memWrite w a v).rBank b' = s.rBank b' :=
  State.rBank_congr (by simp) (by simp) (by simp) b'
@[simp] theorem State.advance_r  (i : Reg) : (s.advance).r i = s.r i :=
  State.r_congr (by simp) (by simp) (by simp) (by simp) i
@[simp] theorem State.advance_rBank  (b' : BankReg) : (s.advance).rBank b' = s.rBank b' :=
  State.rBank_congr (by simp) (by simp) (by simp) b'

theorem Bank.read_write (b : Bank) (i j : BankReg) (v : Word) :
    Bank.read (Bank.write b i v) j = if i = j then v else Bank.read b j := by
  unfold Bank.read Bank.write
  rw [Vector.getElem_set]
  simp [BitVec.toNat_inj]

/-- A register number is its top bit and its low three. -/
theorem reg_ext {i j : Reg} (hm : i.msb = j.msb) (hl : low3 i = low3 j) : i = j := by
  revert i j; decide

/-- Reading a general register after a write of one (R15, R30): the written one reads the value, every
other one as before, in either bank model. -/
@[simp] theorem State.setR_r (i : Reg) (v : Word) (j : Reg) :
    (s.setR i v).r j = if j = i then v else s.r j := by
  have hsel := State.setR_sel s i v
  unfold State.r
  rw [hsel]
  by_cases hij : j = i
  · subst hij
    simp only [if_true]
    unfold State.setR
    cases hm : j.msb <;> cases hs : s.sel <;> simp [Bank.read_write]
  · rw [if_neg hij]
    have key : low3 i = low3 j → i.msb = j.msb → False := fun hl hm => hij (reg_ext hm hl).symm
    unfold State.setR
    cases hmi : i.msb <;> cases hmj : j.msb <;> cases hs : s.sel <;>
      simp only [Bool.false_eq_true, if_true, if_false, Bank.read_write] <;>
      (rw [if_neg]; intro hl; exact key hl (by rw [hmi, hmj]))

@[simp] theorem State.setR_rBank (i : Reg) (v : Word) (b : BankReg) : (s.setR i v).rBank b = s.rBank b := by
  have hsel := State.setR_sel s i v
  unfold State.rBank
  rw [hsel]
  unfold State.setR
  cases i.msb <;> cases hs : s.sel <;> rfl

/-- Reading a bank register after a write of one (R31, R33). -/
@[simp] theorem State.setRBank_rBank (b : BankReg) (v : Word) (c : BankReg) :
    (s.setRBank b v).rBank c = if c = b then v else s.rBank c := by
  have hsel := State.setRBank_sel s b v
  unfold State.rBank
  rw [hsel]
  unfold State.setRBank
  by_cases h : c = b
  · subst h; cases hs : s.sel <;> simp [Bank.read_write]
  · have h' : b ≠ c := fun e => h e.symm
    cases hs : s.sel <;> simp [Bank.read_write, h, h']

/-- A bank-register write reaches no general register (R31, R33). -/
@[simp] theorem State.setRBank_r (b : BankReg) (v : Word) (i : Reg) : (s.setRBank b v).r i = s.r i := by
  have hsel := State.setRBank_sel s b v
  unfold State.r
  rw [hsel]
  unfold State.setRBank
  cases i.msb <;> cases hs : s.sel <;> rfl

/-- R15 is not banked (R33). -/
theorem State.r15_of_rh {s u : State} (h : u.rh = s.rh) : u.r 15 = s.r 15 := by
  unfold State.r; rw [h]; rfl

/-! ## MAC halves (R45) -/

theorem extractHigh_append (x y : Word) : (x ++ y).extractLsb' 32 32 = x := by
  rw [BitVec.extractLsb'_append_eq_of_le (by decide)]; exact BitVec.extractLsb'_eq_self

theorem extractLow_append (x y : Word) : (x ++ y).extractLsb' 0 32 = y := by
  rw [BitVec.extractLsb'_append_eq_of_add_le (by decide)]; exact BitVec.extractLsb'_eq_self

@[simp] theorem State.setMach_mach (v : Word) : (s.setMach v).mach = v := extractHigh_append v s.macl
@[simp] theorem State.setMach_macl (v : Word) : (s.setMach v).macl = s.macl := extractLow_append v s.macl
@[simp] theorem State.setMacl_macl (v : Word) : (s.setMacl v).macl = v := extractLow_append s.mach v
@[simp] theorem State.setMacl_mach (v : Word) : (s.setMacl v).mach = s.mach := extractHigh_append s.mach v
@[simp] theorem State.advance_mach : s.advance.mach = s.mach := rfl
@[simp] theorem State.advance_macl : s.advance.macl = s.macl := rfl
@[simp] theorem State.setR_mach (i : Reg) (v : Word) : (s.setR i v).mach = s.mach :=
  congrArg (·.extractLsb' 32 32) (State.setR_mac s i v)
@[simp] theorem State.setR_macl (i : Reg) (v : Word) : (s.setR i v).macl = s.macl :=
  congrArg (·.extractLsb' 0 32) (State.setR_mac s i v)

end Views

end Sys2Proof.Machine
end

