-- ==== Sys2Proof/Laws/Memory.lean ====
section
/-! SUPPORT. The laws of memory: what a read sees after a write, that every memory operation keeps the
canonical form, and which bytes a store of each width reaches. -/

namespace Sys2Proof.Machine

/-! ## One byte -/

/-- An entry for another address is passed over. -/
theorem Memory.read_cons_ne {b x : Nat} (h : x ≠ b) (v : Byte) (rest : Memory) :
    Memory.read ((b, v) :: rest) x = Memory.read rest x := if_neg (Ne.symm h)

/-- A canonical list from `low` on holds nothing below `low`. -/
theorem Memory.read_below {m : Memory} : ∀ {low a : Nat}, Memory.wfFrom low m = true → a < low →
    Memory.read m a = unlistedByte := by
  induction m with
  | nil => intros; rfl
  | cons c rest ih =>
    obtain ⟨b, v⟩ := c
    intro low a h ha
    simp only [Memory.wfFrom, Bool.and_eq_true, decide_eq_true_eq] at h
    have hb : b ≠ a := by omega
    rw [Memory.read, if_neg hb]
    exact ih h.2 (by omega)

/-- A canonical list stays canonical from any lower bound. -/
theorem Memory.wfFrom_mono {m : Memory} {low low' : Nat} (h : Memory.wfFrom low m = true) (hl : low' ≤ low) :
    Memory.wfFrom low' m = true := by
  cases m with
  | nil => rfl
  | cons c rest =>
    obtain ⟨b, v⟩ := c
    simp only [Memory.wfFrom, Bool.and_eq_true, decide_eq_true_eq] at h ⊢
    exact ⟨⟨⟨by omega, h.1.1.2⟩, h.1.2⟩, h.2⟩

/-- A write keeps the canonical form. -/
theorem Memory.wfFrom_write {m : Memory} : ∀ {low a : Nat} {v : Byte}, Memory.wfFrom low m = true → low ≤ a →
    a < 2 ^ 32 → Memory.wfFrom low (Memory.write m a v) = true := by
  induction m with
  | nil =>
    intro low a v _ hl ha
    unfold Memory.write
    split
    · rfl
    · next hv => simp only [Memory.wfFrom, hl, ha, decide_true, Bool.true_and, Bool.and_true]; simpa using hv
  | cons c rest ih =>
    obtain ⟨b, w⟩ := c
    intro low a v h hl ha
    have h' := h
    simp only [Memory.wfFrom, Bool.and_eq_true, decide_eq_true_eq] at h'
    obtain ⟨⟨⟨hlb, hb⟩, hw⟩, hr⟩ := h'
    unfold Memory.write
    split
    · next hab =>
      split
      · exact h
      · next hv =>
        simp only [Memory.wfFrom, Bool.and_eq_true, decide_eq_true_eq]
        exact ⟨⟨⟨hl, ha⟩, hv⟩, ⟨⟨by omega, hb⟩, hw⟩, hr⟩
    · split
      · next hab =>
        split
        · exact Memory.wfFrom_mono hr (by omega)
        · next hv =>
          simp only [Memory.wfFrom, Bool.and_eq_true, decide_eq_true_eq]
          exact ⟨⟨⟨hl, ha⟩, hv⟩, hab ▸ hr⟩
      · simp only [Memory.wfFrom, Bool.and_eq_true, decide_eq_true_eq]
        exact ⟨⟨⟨hlb, hb⟩, hw⟩, ih hr (by omega) ha⟩

theorem Memory.wf_write {m : Memory} (h : Memory.wf m = true) {a : Nat} (ha : a < 2 ^ 32) (v : Byte) :
    Memory.wf (Memory.write m a v) = true := Memory.wfFrom_write h (Nat.zero_le a) ha

/-- What a read sees after a write, in a canonical memory: the value written at that address, what was
there everywhere else. -/
theorem Memory.read_write_from {m : Memory} : ∀ {low : Nat} (a : Nat) (v : Byte) (x : Nat),
    Memory.wfFrom low m = true → Memory.read (Memory.write m a v) x = if x = a then v else Memory.read m x := by
  induction m with
  | nil =>
    intro low a v x _
    unfold Memory.write
    split
    · next hv => simp only [Memory.read]; split <;> simp_all
    · simp only [Memory.read]; split <;> split <;> simp_all
  | cons c rest ih =>
    obtain ⟨b, w⟩ := c
    intro low a v x h
    simp only [Memory.wfFrom, Bool.and_eq_true, decide_eq_true_eq] at h
    obtain ⟨⟨⟨hlb, hb⟩, hw⟩, hr⟩ := h
    unfold Memory.write
    split
    · next hab =>
      split
      · next hv =>
        by_cases hx : x = a
        · subst hx
          rw [if_pos rfl, Memory.read, if_neg (by omega), Memory.read_below hr (by omega), hv]
        · rw [if_neg hx]
      · simp only [Memory.read]
        by_cases hx : x = a
        · subst hx; simp
        · rw [if_neg (fun e => hx e.symm), if_neg hx]
    · split
      · next hab =>
        subst hab
        split
        · next hv =>
          by_cases hx : x = a
          · subst hx; rw [if_pos rfl, Memory.read_below hr (by omega), hv]
          · rw [if_neg hx, Memory.read, if_neg (fun e => hx e.symm)]
        · simp only [Memory.read]
          by_cases hx : x = a
          · subst hx; simp
          · rw [if_neg (fun e => hx e.symm), if_neg hx, if_neg (fun e => hx e.symm)]
      · next hab hne =>
        simp only [Memory.read]
        by_cases hbx : b = x
        · subst hbx; rw [if_pos rfl, if_neg (fun e => hne e.symm), if_pos rfl]
        · rw [if_neg hbx, if_neg hbx]; exact ih a v x hr

/-- A write is seen by a read of the same byte and by no other, whatever the memory's form. -/
theorem Memory.read_write_other {m : Memory} : ∀ (a : Nat) (v : Byte) (x : Nat), x ≠ a →
    Memory.read (Memory.write m a v) x = Memory.read m x := by
  induction m with
  | nil =>
    intro a v x hx
    unfold Memory.write
    split
    · rfl
    · rw [Memory.read_cons_ne hx]
  | cons c rest ih =>
    obtain ⟨b, w⟩ := c
    intro a v x hx
    unfold Memory.write
    split
    · split
      · rfl
      · rw [Memory.read_cons_ne hx]
    · split
      · next hab =>
        subst hab
        split
        · rw [Memory.read_cons_ne hx]
        · rw [Memory.read_cons_ne hx, Memory.read_cons_ne hx]
      · simp only [Memory.read, ih a v x hx]

/-! ## One byte of a state -/

/-- The port's write keeps the canonical form. -/
theorem portWrite_wf (p : Params) {m : Memory} (h : Memory.wf m = true) (a : Word) (v : Byte) :
    Memory.wf (portWrite p m a v) = true := by
  unfold portWrite; split
  · exact Memory.wf_write h a.isLt v
  · exact h

/-- A write through the port reaches no other byte (20 R92), whatever the memory's form. -/
theorem read_portWrite_other (p : Params) (m : Memory) (a : Word) (v : Byte) {x : Word} (hx : x ≠ a) :
    Memory.read (portWrite p m a v) x.toNat = Memory.read m x.toNat := by
  unfold portWrite; split
  · exact Memory.read_write_other _ v _ (fun e => hx (BitVec.eq_of_toNat_eq e))
  · rfl

/-- What the port stores, in a canonical memory. -/
theorem read_portWrite {p : Params} {m : Memory} (h : Memory.wf m = true) {a : Word} (hp : portWrites p a = .stored)
    (v : Byte) (x : Word) :
    Memory.read (portWrite p m a v) x.toNat = if x = a then v else Memory.read m x.toNat := by
  unfold portWrite
  rw [if_pos hp, Memory.read_write_from a.toNat v x.toNat h]
  simp only [BitVec.toNat_inj]

theorem State.isRam_iff (s : State) (a : Word) :
    s.isRam a = true ↔ portReads s.params a = .stored ∧ portWrites s.params a = .stored := by
  unfold State.isRam; simp

/-- RAM reads what is stored. -/
theorem State.byteAt_ram {s : State} {a : Word} (h : s.isRam a = true) : s.byteAt a = Memory.read s.mem a.toNat := by
  unfold State.byteAt; rw [((State.isRam_iff s a).1 h).1]

@[simp] theorem State.setByte_isRam (s : State) (a : Word) (v : Byte) (x : Word) :
    (s.setByte a v).isRam x = s.isRam x := rfl

/-- Whether bytes are RAM depends on the parameters only. -/
theorem State.ram_congr {s u : State} (h : u.params = s.params) (a : Word) (n : Nat) : u.ram a n = s.ram a n := by
  unfold State.ram State.isRam; rw [h]

theorem State.ram_at {s : State} {a : Word} {n : Nat} (h : s.ram a n = true) {k : Nat} (hk : k < n) :
    s.isRam (a + BitVec.ofNat 32 k) = true := by
  unfold State.ram at h
  exact List.all_eq_true.1 h k (List.mem_range.2 hk)

/-- RAM answers reads and writes (20 R92). -/
theorem State.ram_answers {s : State} {a : Word} {n : Nat} (h : s.ram a n = true) (d : Direction) :
    s.answers d a n = true := by
  refine List.all_eq_true.2 fun k hk => ?_
  have hr := (State.isRam_iff s _).1 (State.ram_at h (List.mem_range.1 hk))
  cases d <;> simp [portAnswers, hr.1, hr.2]

/-- The byte written to RAM is the byte read (20 R81), in a canonical memory. -/
theorem State.byteAt_setByte (s : State) (h : Memory.wf s.mem = true) {a : Word} (hr : s.isRam a = true) (v : Byte)
    (x : Word) : (s.setByte a v).byteAt x = if x = a then v else s.byteAt x := by
  have hp := (State.isRam_iff s a).1 hr
  by_cases hx : x = a
  · subst hx
    rw [if_pos rfl, State.byteAt_ram (s := s.setByte x v) hr]
    exact (read_portWrite h hp.2 v x).trans (if_pos rfl)
  · rw [if_neg hx]
    unfold State.byteAt State.setByte
    simp only [read_portWrite_other _ _ _ _ hx]

/-- Every other byte reads as before, whatever the memory's form. -/
theorem State.byteAt_setByte_other (s : State) (a : Word) (v : Byte) (x : Word) (hx : x ≠ a) :
    (s.setByte a v).byteAt x = s.byteAt x := by
  unfold State.byteAt State.setByte
  simp only [read_portWrite_other _ _ _ _ hx]

/-- A write that the port does not store changes nothing (20 R92). -/
theorem State.setByte_absorbed {s : State} {a : Word} (h : portWrites s.params a ≠ .stored) (v : Byte) :
    s.setByte a v = s := by
  unfold State.setByte portWrite; rw [if_neg h]

theorem State.setByte_wf {s : State} (h : Memory.wf s.mem = true) (a : Word) (v : Byte) :
    Memory.wf (s.setByte a v).mem = true := portWrite_wf s.params h a v

/-- Two states with the same memory behind the same port, in the same step, read the same bytes. -/
theorem State.byteAt_congr {s u : State} (h : u.mem = s.mem) (hp : u.params = s.params) (ht : u.ticks = s.ticks)
    (x : Word) : u.byteAt x = s.byteAt x := by
  unfold State.byteAt; rw [h, hp, ht]

@[simp] theorem State.setR_byteAt (s : State) (i : Reg) (v : Word) (x : Word) :
    (s.setR i v).byteAt x = s.byteAt x :=
  State.byteAt_congr (State.setR_mem s i v) (State.setR_params s i v) (State.setR_ticks s i v) x
@[simp] theorem State.setRBank_byteAt (s : State) (b : BankReg) (v : Word) (x : Word) :
    (s.setRBank b v).byteAt x = s.byteAt x :=
  State.byteAt_congr (State.setRBank_mem s b v) (State.setRBank_params s b v) (State.setRBank_ticks s b v) x

/-! ## Stores and loads of a width -/

theorem State.memWrite_wf {s : State} (h : Memory.wf s.mem = true) (w : Width) (a v : Word) :
    Memory.wf (s.memWrite w a v).mem = true := by
  unfold State.memWrite
  have two := fun x y b c => State.setByte_wf (State.setByte_wf h x b) y c
  split
  · exact State.setByte_wf h _ _
  · exact two _ _ _ _
  · exact two _ _ _ _
  · exact State.setByte_wf (State.setByte_wf (two _ _ _ _) _ _) _ _
  · exact State.setByte_wf (State.setByte_wf (two _ _ _ _) _ _) _ _

/-- `x` is none of the `n` bytes from `a` on. -/
theorem ne_of_offset {a x : Word} {n k : Nat} (hx : n ≤ (x - a).toNat) (hk : k < n) :
    x ≠ a + BitVec.ofNat 32 k := by
  intro e
  rw [e] at hx
  have hs : a + BitVec.ofNat 32 k - a = BitVec.ofNat 32 k := by
    rw [BitVec.add_comm]; exact BitVec.add_sub_cancel _ _
  rw [hs, BitVec.toNat_ofNat] at hx
  have := Nat.mod_le k (2 ^ 32)
  omega

/-- A store of a width reaches only that many bytes from its address on (20 R81). -/
theorem State.memWrite_byteAt_other (s : State) (w : Width) (a v x : Word) (hx : Width.bytes w ≤ (x - a).toNat) :
    (s.memWrite w a v).byteAt x = s.byteAt x := by
  have hk : ∀ k, k < Width.bytes w → x ≠ a + BitVec.ofNat 32 k := fun k => ne_of_offset hx
  unfold State.memWrite
  split
  · exact State.byteAt_setByte_other _ _ _ _ (by simpa using hk 0 (by decide))
  all_goals
    have h0 : x ≠ a := by simpa using hk 0 (by decide)
    have h1 : x ≠ a + 1 := hk 1 (by decide)
  · rw [State.byteAt_setByte_other _ _ _ _ h1, State.byteAt_setByte_other _ _ _ _ h0]
  · rw [State.byteAt_setByte_other _ _ _ _ h1, State.byteAt_setByte_other _ _ _ _ h0]
  all_goals
    have h2 : x ≠ a + 2 := hk 2 (by decide)
    have h3 : x ≠ a + 3 := hk 3 (by decide)
    rw [State.byteAt_setByte_other _ _ _ _ h3, State.byteAt_setByte_other _ _ _ _ h2,
      State.byteAt_setByte_other _ _ _ _ h1, State.byteAt_setByte_other _ _ _ _ h0]

/-- An offset that is not 0 modulo 2^32 moves an address. -/
theorem add_ne_add {a c d : Word} (h : c ≠ d) : a + c ≠ a + d :=
  fun e => h (by simpa using e)

/-- The bytes of a value, put together again. -/
theorem bytes_append (v : Word) : byteOf v 3 ++ byteOf v 2 ++ byteOf v 1 ++ byteOf v 0 = v := by
  apply BitVec.eq_of_getLsbD_eq
  intro i hi
  unfold byteOf
  simp only [BitVec.getLsbD_append, BitVec.getLsbD_extractLsb']
  by_cases h0 : i < 8
  · simp [h0]
  by_cases h1 : i - 8 < 8
  · simp [h0, h1]; congr 1; omega
  by_cases h2 : i - 8 - 8 < 8
  · simp [h0, h1, h2]; congr 1; omega
  · have h3 : i - 8 - 8 - 8 < 8 := by omega
    simp [h0, h1, h2, h3]; congr 1; omega

theorem bytes_append_word (v : Word) : (0#16 ++ byteOf v 1 ++ byteOf v 0 : Word) = (v.setWidth 16).setWidth 32 := by
  apply BitVec.eq_of_getLsbD_eq
  intro i hi
  unfold byteOf
  simp only [BitVec.getLsbD_append, BitVec.getLsbD_extractLsb', BitVec.getLsbD_setWidth, BitVec.getLsbD_zero]
  by_cases h0 : i < 8
  · have : i < 16 := by omega
    simp [h0, hi, this]
  by_cases h1 : i - 8 < 8
  · have h2 : i < 16 := by omega
    have h3 : 8 + (i - 8) = i := by omega
    simp [h0, h1, hi, h2, h3]
  · have h2 : ¬ i < 16 := by omega
    simp [h0, h1, h2]

/-- Two bytes of RAM stored one after the other. -/
theorem State.byteAt_two (s : State) (h : Memory.wf s.mem = true) (a : Word) (h0 : s.isRam a = true)
    (h1 : s.isRam (a + 1) = true) (x0 x1 : Byte) :
    ((s.setByte a x0).setByte (a + 1) x1).byteAt a = x0 ∧
      ((s.setByte a x0).setByte (a + 1) x1).byteAt (a + 1) = x1 := by
  have n01 : a ≠ a + 1 := by simp
  have w1 := State.setByte_wf h a x0
  have r1 : (s.setByte a x0).isRam (a + 1) = true := (State.setByte_isRam _ _ _ _).trans h1
  simp only [State.byteAt_setByte _ w1 r1, State.byteAt_setByte _ h h0, if_neg n01, if_true, and_self]

/-- Four bytes of RAM stored one after the other. -/
theorem State.byteAt_four (s : State) (h : Memory.wf s.mem = true) (a : Word) (h0 : s.isRam a = true)
    (h1 : s.isRam (a + 1) = true) (h2 : s.isRam (a + 2) = true) (h3 : s.isRam (a + 3) = true) (x0 x1 x2 x3 : Byte) :
    let u := (((s.setByte a x0).setByte (a + 1) x1).setByte (a + 2) x2).setByte (a + 3) x3
    u.byteAt a = x0 ∧ u.byteAt (a + 1) = x1 ∧ u.byteAt (a + 2) = x2 ∧ u.byteAt (a + 3) = x3 := by
  intro u
  have n02 : a ≠ a + 2 := by simp
  have n03 : a ≠ a + 3 := by simp
  have n12 : a + 1 ≠ a + 2 := add_ne_add (by decide)
  have n13 : a + 1 ≠ a + 3 := add_ne_add (by decide)
  have n23 : a + 2 ≠ a + 3 := add_ne_add (by decide)
  have w2 := State.setByte_wf (State.setByte_wf h a x0) (a + 1) x1
  have w3 := State.setByte_wf w2 (a + 2) x2
  have r2 : ((s.setByte a x0).setByte (a + 1) x1).isRam (a + 2) = true := by
    rw [State.setByte_isRam, State.setByte_isRam]; exact h2
  have r3 : (((s.setByte a x0).setByte (a + 1) x1).setByte (a + 2) x2).isRam (a + 3) = true := by
    rw [State.setByte_isRam, State.setByte_isRam, State.setByte_isRam]; exact h3
  obtain ⟨e0, e1⟩ := State.byteAt_two s h a h0 h1 x0 x1
  simp only [u, State.byteAt_setByte _ w3 r3, State.byteAt_setByte _ w2 r2, if_neg n02, if_neg n03, if_neg n12,
    if_neg n13, if_neg n23, if_true, e0, e1, and_self]

/-- The value a load of a width sees after a store of that width at the same address in RAM (20 R81, R94): its
low bytes, in either byte order. -/
theorem State.memRead_memWrite (s : State) (h : Memory.wf s.mem = true) (w : Width) (a v : Word) :
    s.ram a (Width.bytes w) = true → (s.memWrite w a v).memRead w a =
      match w with
      | .byte => (v.setWidth 8).setWidth 32
      | .word => (v.setWidth 16).setWidth 32
      | .long => v := by
  intro hr
  have e : (s.memWrite w a v).params.endian = s.params.endian := by rw [State.memWrite_params]
  have r : ∀ k, k < Width.bytes w → s.isRam (a + BitVec.ofNat 32 k) = true := fun k => State.ram_at hr
  unfold State.memRead
  rw [e]
  unfold State.memWrite
  have r0 : 0 < Width.bytes w → s.isRam a = true := fun hk => by simpa using r 0 hk
  cases w with
  | byte => simp only [State.byteAt_setByte _ h (r0 (by decide)), if_true]; rfl
  | word =>
    have b := State.byteAt_two s h a (r0 (by decide)) (r 1 (by decide))
    cases s.params.endian
    · obtain ⟨e0, e1⟩ := b (byteOf v 0) (byteOf v 1)
      simp only [e0, e1]; exact bytes_append_word v
    · obtain ⟨e0, e1⟩ := b (byteOf v 1) (byteOf v 0)
      simp only [e0, e1]; exact bytes_append_word v
  | long =>
    have b := State.byteAt_four s h a (r0 (by decide)) (r 1 (by decide)) (r 2 (by decide)) (r 3 (by decide))
    cases s.params.endian
    · obtain ⟨e0, e1, e2, e3⟩ := b (byteOf v 0) (byteOf v 1) (byteOf v 2) (byteOf v 3)
      simp only [e0, e1, e2, e3]; exact bytes_append v
    · obtain ⟨e0, e1, e2, e3⟩ := b (byteOf v 3) (byteOf v 2) (byteOf v 1) (byteOf v 0)
      simp only [e0, e1, e2, e3]; exact bytes_append v

/-- A state with the same memory behind the same port, in the same step, loads the same values. -/
theorem State.memRead_congr {s u : State} (h : u.mem = s.mem) (hp : u.params = s.params) (ht : u.ticks = s.ticks)
    (w : Width) (a : Word) : u.memRead w a = s.memRead w a := by
  unfold State.memRead State.byteAt; rw [h, hp, ht]

/-! ## The line an OCBI leaves (47 R577) -/

theorem havocBytes_wf (p : Params) (draw : Nat) (base : Word) : ∀ (k : Nat) {m : Memory}, Memory.wf m = true →
    Memory.wf (havocBytes p draw base k m) = true
  | 0, _, h => h
  | k + 1, _, h => portWrite_wf p (havocBytes_wf p draw base k h) _ _

/-- The bytes outside the first `k` of the line are kept. -/
theorem read_havocBytes_other (p : Params) (draw : Nat) (base x : Word) (m : Memory) : ∀ (k : Nat),
    k ≤ (x - base).toNat → Memory.read (havocBytes p draw base k m) x.toNat = Memory.read m x.toNat
  | 0, _ => rfl
  | k + 1, hx => by
    rw [havocBytes, read_portWrite_other _ _ _ _ (ne_of_offset hx (Nat.lt_succ_self k))]
    exact read_havocBytes_other p draw base x m k (by omega)

/-- Each byte of the line that the port stores is the byte drawn for its address. -/
theorem read_havocBytes {p : Params} (draw : Nat) (base : Word) {x : Word} (hp : portWrites p x = .stored)
    {m : Memory} (h : Memory.wf m = true) : ∀ (k : Nat),
    (x - base).toNat < k → Memory.read (havocBytes p draw base k m) x.toNat = Config.drawByte draw x
  | 0, hx => absurd hx (Nat.not_lt_zero _)
  | k + 1, hx => by
    by_cases e : x = base + BitVec.ofNat 32 k
    · rw [havocBytes, ← e, read_portWrite (havocBytes_wf p draw base k h) hp, if_pos rfl]
    · rw [havocBytes, read_portWrite_other _ _ _ _ e]
      refine read_havocBytes draw base hp h k ?_
      by_contra hk
      have hk' : (x - base).toNat = k := by omega
      exact e (by
        have : x - base = BitVec.ofNat 32 k := by
          apply BitVec.eq_of_toNat_eq
          have := (x - base).isLt
          rw [BitVec.toNat_ofNat, Nat.mod_eq_of_lt (by omega)]; exact hk'
        rw [← this, BitVec.add_comm]; exact (BitVec.sub_add_cancel x base).symm)

/-- The reset memory is canonical. -/
theorem State.reset_memory_wf : Memory.wf State.reset.mem = true := rfl

end Sys2Proof.Machine
end

