-- ==== Sys2Proof/Laws/Ops.lean ====
section
/-! SUPPORT. For each shared operation, once, everything it can do: the forward lemma where its checks pass,
the lemma of each check that fails, and the inversion "if it answers next u, then …". -/

namespace Sys2Proof.Machine

/-! ## Exceptions -/

theorem State.undoBranch_normal {s : State} (h : s.ds = .normal) : s.undoBranch = s := by
  unfold State.undoBranch; rw [h]

theorem State.undoBranch_pending {s : State} {t : Word} {u : BranchUndo} (h : s.ds = .pending t u) :
    s.undoBranch = { s with pc := u.pc, pr := u.pr, sr := u.sr, ds := .normal } := by
  unfold State.undoBranch; rw [h]

/-- Everything taking an exception can do. -/
theorem takeException_cases (e : Exc) (s : State) :
    (s.undoBranch.params.trapEntry = .external ∧ takeException e s =
        .next { s.undoBranch with report := some ⟨e, e.code, e.savedPc s.undoBranch.pc⟩ }) ∨
    (s.undoBranch.params.trapEntry = .reference ∧ s.undoBranch.bl = true ∧
      takeException e s = .fault .blockedException) ∨
    (s.undoBranch.params.trapEntry = .reference ∧ s.undoBranch.bl = false ∧ takeException e s =
        .next ((s.undoBranch.recordCause e).enterVector (e.savedPc s.undoBranch.pc) generalOffset)) := by
  unfold takeException
  cases h : s.undoBranch.params.trapEntry with
  | external => exact .inl ⟨rfl, by simp only [h]⟩
  | reference =>
    cases hb : s.undoBranch.bl with
    | true => exact .inr (.inl ⟨rfl, rfl, by simp only [h, hb, if_true]⟩)
    | false => exact .inr (.inr ⟨rfl, rfl, by simp only [h, hb, Bool.false_eq_true, if_false]⟩)

theorem takeException_next {e : Exc} {s u : State} (h : takeException e s = .next u) :
    (s.undoBranch.params.trapEntry = .external ∧
      u = { s.undoBranch with report := some ⟨e, e.code, e.savedPc s.undoBranch.pc⟩ }) ∨
    (s.undoBranch.params.trapEntry = .reference ∧ s.undoBranch.bl = false ∧
      u = (s.undoBranch.recordCause e).enterVector (e.savedPc s.undoBranch.pc) generalOffset) := by
  rcases takeException_cases e s with ⟨h1, h2⟩ | ⟨h1, h2, h3⟩ | ⟨h1, h2, h3⟩
  · rw [h2] at h; cases h; exact .inl ⟨h1, rfl⟩
  · rw [h3] at h; cases h
  · rw [h3] at h; cases h; exact .inr ⟨h1, h2, rfl⟩

/-- An exception in a slot is the branch's (44 R405): only the state before the branch matters. -/
theorem takeException_undo {e : Exc} {s u : State} (h : u.undoBranch = s.undoBranch) :
    takeException e u = takeException e s := by
  unfold takeException; rw [h]

/-- What taking an exception leaves alone, and DS after it (60 R621, R622; 44 R405). -/
theorem takeException_keeps {e : Exc} {s u : State} (h : takeException e s = .next u) :
    u.ds = .normal ∧ u.params = s.params ∧ u.mem = s.mem ∧ u.events = s.events ∧ u.mark = s.mark ∧ u.ticks = s.ticks := by
  have hn : s.undoBranch.ds = .normal ∧ s.undoBranch.params = s.params ∧ s.undoBranch.mem = s.mem ∧
      s.undoBranch.events = s.events ∧ s.undoBranch.mark = s.mark ∧ s.undoBranch.ticks = s.ticks := by
    unfold State.undoBranch
    split
    · next hd => exact ⟨hd, rfl, rfl, rfl, rfl, rfl⟩
    · exact ⟨rfl, rfl, rfl, rfl, rfl, rfl⟩
  rcases takeException_next h with ⟨_, h⟩ | ⟨_, _, h⟩
  · subst h; exact hn
  · subst h; cases e <;> exact hn

/-! ## Checked accesses -/

section Checked
variable {s u : State} {dir : Direction} {w : Width} {a v : Word}

theorem State.checked_accessible (h : Accessible s dir w a) (go : Result) : s.checked dir w a go = go := by
  unfold State.checked; rw [if_pos h.1, if_pos h.2]

theorem State.checked_misaligned (h : Width.aligned w a = false) (go : Result) :
    s.checked dir w a go = addressError dir a s := by
  unfold State.checked addressError
  refine (if_neg (by rw [h]; exact Bool.false_ne_true)).trans ?_
  cases s.params.misaligned <;> rfl

theorem State.checked_unanswered (h : Width.aligned w a = true) (ha : s.answers dir a (Width.bytes w) = false)
    (go : Result) : s.checked dir w a go = .fault .portNoAnswer := by
  unfold State.checked; rw [if_pos h, if_neg (by rw [ha]; exact Bool.false_ne_true)]

/-- Everything a checked access can do when it answers a next state. -/
theorem State.checked_next {go : Result} (h : s.checked dir w a go = .next u) :
    (Accessible s dir w a ∧ go = .next u) ∨
    (Width.aligned w a = false ∧ s.params.misaligned = .exception ∧
      takeException (dir.addressError a) s = .next u) := by
  cases ha : Width.aligned w a
  · rw [State.checked_misaligned ha] at h
    unfold addressError at h
    cases hm : s.params.misaligned <;> rw [hm] at h
    · cases h
    · exact .inr ⟨rfl, rfl, h⟩
  · cases hp : s.answers dir a (Width.bytes w)
    · rw [State.checked_unanswered ha hp] at h; cases h
    · rw [State.checked_accessible ⟨ha, hp⟩] at h; exact .inl ⟨⟨ha, hp⟩, h⟩

theorem State.load_accessible (h : Accessible s .read w a) (k : Word → Result) : s.load w a k = k (s.memRead w a) :=
  State.checked_accessible h _

theorem State.load_misaligned (h : Width.aligned w a = false) (k : Word → Result) :
    s.load w a k = addressError .read a s := State.checked_misaligned h _

theorem State.load_unanswered (h : Width.aligned w a = true) (ha : s.answers .read a (Width.bytes w) = false)
    (k : Word → Result) : s.load w a k = .fault .portNoAnswer := State.checked_unanswered h ha _

theorem State.load_next {k : Word → Result} (h : s.load w a k = .next u) :
    (Accessible s .read w a ∧ k (s.memRead w a) = .next u) ∨
    (Width.aligned w a = false ∧ s.params.misaligned = .exception ∧
      takeException (.dataAddressErrorRead a) s = .next u) := State.checked_next h

theorem State.store_accessible (h : Accessible s .write w a) (k : State → Result) :
    s.store w a v k = k (s.memWrite w a v) := State.checked_accessible h _

theorem State.store_misaligned (h : Width.aligned w a = false) (k : State → Result) :
    s.store w a v k = addressError .write a s := State.checked_misaligned h _

theorem State.store_unanswered (h : Width.aligned w a = true) (ha : s.answers .write a (Width.bytes w) = false)
    (k : State → Result) : s.store w a v k = .fault .portNoAnswer := State.checked_unanswered h ha _

theorem State.store_next {k : State → Result} (h : s.store w a v k = .next u) :
    (Accessible s .write w a ∧ k (s.memWrite w a v) = .next u) ∨
    (Width.aligned w a = false ∧ s.params.misaligned = .exception ∧
      takeException (.dataAddressErrorWrite a) s = .next u) := State.checked_next h

theorem State.answered_next {n : Nat} {go : Result} (h : s.answered dir a n go = .next u) :
    s.answers dir a n = true ∧ go = .next u := by
  unfold State.answered at h
  cases ha : s.answers dir a n <;> rw [ha] at h
  · cases h
  · exact ⟨rfl, h⟩

/-- A byte access is always aligned (20 R83). -/
theorem Width.aligned_byte (a : Word) : Width.aligned .byte a = true := rfl

theorem Width.aligned_word (a : Word) : Width.aligned .word a = decide (a.toNat % 2 = 0) := by
  unfold Width.aligned
  have : (a.extractLsb' 0 1 = 0) ↔ a.toNat % 2 = 0 := by
    rw [← BitVec.toNat_inj]; simp [BitVec.extractLsb'_toNat]
  simp only [this]

theorem Width.aligned_long (a : Word) : Width.aligned .long a = decide (a.toNat % 4 = 0) := by
  unfold Width.aligned
  have : (a.extractLsb' 0 2 = 0) ↔ a.toNat % 4 = 0 := by
    rw [← BitVec.toNat_inj]; simp [BitVec.extractLsb'_toNat]
  simp only [this]

/-- What the port answers depends on the parameters only. -/
theorem State.answers_congr (h : u.params = s.params) (d : Direction) (a : Word) (n : Nat) :
    u.answers d a n = s.answers d a n := by
  unfold State.answers; rw [h]

end Checked

/-! ## Privilege -/

theorem State.privileged_permitted {s : State} (h : Permitted s) (go : Result) : s.privileged go = go := by
  unfold State.privileged
  rw [if_neg]
  rintro ⟨h1, h2⟩
  rcases h with h | h
  · rw [h1] at h; cases h
  · rw [h2] at h; cases h

theorem State.privileged_denied {s : State} (h : ¬Permitted s) (go : Result) :
    s.privileged go = takeException (if s.inSlot then .slotIllegalInstruction else .generalIllegalInstruction) s := by
  unfold State.privileged
  rw [if_pos]
  constructor
  · cases hp : s.params.privCheck
    · exact absurd (.inl hp) h
    · rfl
  · cases hm : s.md
    · rfl
    · exact absurd (.inr hm) h

theorem State.privileged_next {s u : State} {go : Result} (h : s.privileged go = .next u) :
    (Permitted s ∧ go = .next u) ∨ (¬Permitted s ∧ takeException
      (if s.inSlot then .slotIllegalInstruction else .generalIllegalInstruction) s = .next u) := by
  by_cases hp : Permitted s
  · rw [State.privileged_permitted hp] at h; exact .inl ⟨hp, h⟩
  · rw [State.privileged_denied hp] at h; exact .inr ⟨hp, h⟩

theorem State.inSlot_normal {s : State} (h : s.ds = .normal) : s.inSlot = false := by
  unfold State.inSlot; rw [h]

/-! ## Fetch and the step -/

theorem State.fetch_accessible {s : State} {a : Word} (h : Accessible s .read .word a) (k : Half → Result) :
    s.fetch a k = k ((s.memRead .word a).setWidth 16) := by
  have h2 : s.answers .read a 2 = true := h.2
  unfold State.fetch; rw [if_pos h.1, if_pos h2]

/-- Everything a fetch can do when it answers a next state. -/
theorem State.fetch_next {s u : State} {a : Word} {k : Half → Result} (h : s.fetch a k = .next u) :
    (Accessible s .read .word a ∧ k ((s.memRead .word a).setWidth 16) = .next u) ∨
    (Width.aligned .word a = false ∧ s.params.misaligned = .exception ∧
      takeException (.instructionAddressError a) s = .next u) := by
  unfold State.fetch at h
  cases ha : Width.aligned .word a <;> rw [ha] at h
  · cases hm : s.params.misaligned <;> rw [hm] at h
    · cases h
    · exact .inr ⟨rfl, rfl, h⟩
  · simp only [if_true] at h
    cases hp : s.answers .read a 2 <;> rw [hp] at h
    · cases h
    · exact .inl ⟨⟨ha, hp⟩, h⟩

/-- An awake engine fetches at PC, its report cleared and the step counted (20 R88; log 12, log 21). -/
theorem engineStep_awake {s : State} (hm : s.mark = none) (hd : s.ds = .normal) (hs : s.sleeping = false) :
    engineStep s = s.fresh.fetch s.pc fun w => runWord w s.fresh := by
  unfold engineStep
  simp only [hm, hd, hs, Bool.false_eq_true, if_false]

/-- A sleeping engine takes no step (47 R586; log 9). -/
theorem engineStep_sleeping {s : State} (hm : s.mark = none) (hd : s.ds = .normal) (hs : s.sleeping = true) :
    engineStep s = .next s := by
  unfold engineStep
  simp only [hm, hd, hs, if_true]

/-- A marked engine has no step (10 R50; log 20). -/
theorem engineStep_marked {s : State} {m : Mark} (hm : s.mark = some m) : engineStep s = m.outcome := by
  unfold engineStep
  simp only [hm]

/-- A mark stands for no next state. -/
theorem Mark.outcome_ne_next (m : Mark) (u : State) : m.outcome ≠ .next u := by cases m <;> exact nofun

/-- Everything a step of the engine can do when it answers a next state. -/
theorem engineStep_next {s u : State} (h : engineStep s = .next u) : s.mark = none ∧ s.ds = .normal ∧
    ((s.sleeping = true ∧ u = s) ∨
      (s.sleeping = false ∧ s.fresh.fetch s.pc (fun w => runWord w s.fresh) = .next u)) := by
  cases hm : s.mark with
  | some m => rw [engineStep_marked hm] at h; exact absurd h (m.outcome_ne_next u)
  | none =>
    cases hd : s.ds with
    | pending t undo => unfold engineStep at h; simp only [hm, hd] at h; cases h
    | normal =>
      cases hs : s.sleeping with
      | true => rw [engineStep_sleeping hm hd hs] at h; cases h; exact ⟨rfl, rfl, .inl ⟨rfl, rfl⟩⟩
      | false => rw [engineStep_awake hm hd hs] at h; exact ⟨rfl, rfl, .inr ⟨rfl, h⟩⟩

/-- Everything a scheduled step can leave: what the engine's step answers, or the state before it, marked. -/
theorem scheduledStep_cases (s : State) :
    engineStep s = .next (scheduledStep s) ∨
    (∃ r, engineStep s = .fault r ∧ scheduledStep s = { s with mark := some (.faulted r) }) ∨
    (∃ r, engineStep s = .refused r ∧ scheduledStep s = { s with mark := some (.refused r) }) := by
  unfold scheduledStep
  cases h : engineStep s with
  | next u => exact .inl rfl
  | fault r => exact .inr (.inl ⟨r, rfl, rfl⟩)
  | refused r => exact .inr (.inr ⟨r, rfl, rfl⟩)

/-- With no event coming, the step is the engine's (00 R19; log 10). -/
theorem step_engine {s : State} (h : s.events = []) : step s = engineStep s := by
  unfold step transition; simp only [h]

/-- The next event is the platform's (log 10). -/
theorem step_event {s : State} {e : Event} {rest : List Event} (h : s.events = e :: rest) :
    step s = runEvent e { s with events := rest } := by
  unfold step transition; simp only [h]

/-- The step of an awake engine is the run of the word it fetches. -/
theorem step_of_fetches {s : State} {w : Half} (h : Fetches s w) : step s = runWord w s.fresh := by
  rw [step_engine h.events, engineStep_awake h.unmarked h.slot h.awake, State.fetch_accessible h.accessible, h.word]

theorem runWord_of_decode {w : Half} {i : Instr} (h : Encodes w i) (s : State) : runWord w s = runInstr i s := by
  unfold runWord; rw [h]

/-- Everything running an instruction can do when it answers a next state. -/
theorem runInstr_next {i : Instr} {s u : State} (h : runInstr i s = .next u) :
    (exec i s = .next u ∧ u.ds = .normal) ∨
    (∃ b t undo, exec i s = .next b ∧ b.ds = .pending t undo ∧ runSlot b = .next u) := by
  unfold runInstr at h
  cases he : exec i s with
  | next b =>
    rw [he] at h
    cases hd : b.ds with
    | normal => simp only [hd] at h; cases h; exact .inl ⟨rfl, hd⟩
    | pending t undo => simp only [hd] at h; exact .inr ⟨b, t, undo, rfl, hd, h⟩
  | fault r => rw [he] at h; cases h
  | refused r => rw [he] at h; cases h

/-- Running an instruction that ends in `next` outside a slot. -/
theorem runInstr_normal {i : Instr} {s u : State} (h : exec i s = .next u) (hd : u.ds = .normal) :
    runInstr i s = .next u := by
  unfold runInstr; simp only [h, hd]

/-- Running a delayed branch runs its slot. -/
theorem runInstr_pending {i : Instr} {s u : State} {t : Word} {undo : BranchUndo} (h : exec i s = .next u)
    (hd : u.ds = .pending t undo) : runInstr i s = runSlot u := by
  unfold runInstr; simp only [h, hd]

theorem runInstr_fault {i : Instr} {s : State} {f : Fault} (h : exec i s = .fault f) : runInstr i s = .fault f := by
  unfold runInstr; simp only [h]

theorem runInstr_refused {i : Instr} {s : State} {r : Refusal} (h : exec i s = .refused r) :
    runInstr i s = .refused r := by
  unfold runInstr; simp only [h]

/-- The slot word is undefined (44 R403). -/
theorem runSlot_undefined {u : State} (ha : Accessible u .read .word (u.pc + 2))
    (h : decode ((u.memRead .word (u.pc + 2)).setWidth 16) = .error .undefinedWord) :
    runSlot u = .fault .slotIllegal := by
  unfold runSlot runSlotWord; rw [State.fetch_accessible ha]; simp only [h]

/-- The slot word decodes. -/
theorem runSlot_decode {u : State} {j : Instr} (ha : Accessible u .read .word (u.pc + 2))
    (h : Encodes ((u.memRead .word (u.pc + 2)).setWidth 16) j) : runSlot u = runSlotInstr j u := by
  have h : decode ((u.memRead .word (u.pc + 2)).setWidth 16) = .ok j := h
  unfold runSlot runSlotWord; rw [State.fetch_accessible ha]; simp only [h]

theorem runSlotInstr_slotIllegal {j : Instr} (h : slotIllegal j = true) (u : State) :
    runSlotInstr j u = .fault .slotIllegal := if_pos h

theorem runSlotInstr_pcRelative {j : Instr} {u : State} (hi : slotIllegal j = false) (h : pcRelative j = true)
    (hp : u.params.slotPcRel = .fault) : runSlotInstr j u = .fault .slotPcRelative := by
  unfold runSlotInstr
  rw [if_neg (by rw [hi]; exact Bool.false_ne_true), if_pos ⟨h, hp⟩]

section SlotRuns
variable {j : Instr} {u x : State} (hi : slotIllegal j = false)
  (hp : ¬(pcRelative j = true ∧ u.params.slotPcRel = .fault))
include hi hp

/-- The slot instruction ends in `next`: the target is installed (44 R401). -/
theorem runSlotInstr_next {t : Word} {undo : BranchUndo} (h : exec j { u with pc := u.pc + 2 } = .next x)
    (hd : x.ds = .pending t undo) : runSlotInstr j u = .next { x with pc := t, ds := .normal } := by
  unfold runSlotInstr
  rw [if_neg (by rw [hi]; exact Bool.false_ne_true), if_neg hp]; simp only [h, hd]

/-- The slot instruction took an exception: the pair has been undone (44 R405). -/
theorem runSlotInstr_exception (h : exec j { u with pc := u.pc + 2 } = .next x) (hd : x.ds = .normal) :
    runSlotInstr j u = .next x := by
  unfold runSlotInstr
  rw [if_neg (by rw [hi]; exact Bool.false_ne_true), if_neg hp]; simp only [h, hd]

theorem runSlotInstr_fault {f : Fault} (h : exec j { u with pc := u.pc + 2 } = .fault f) :
    runSlotInstr j u = .fault f := by
  unfold runSlotInstr
  rw [if_neg (by rw [hi]; exact Bool.false_ne_true), if_neg hp]; simp only [h]

theorem runSlotInstr_refused {r : Refusal} (h : exec j { u with pc := u.pc + 2 } = .refused r) :
    runSlotInstr j u = .refused r := by
  unfold runSlotInstr
  rw [if_neg (by rw [hi]; exact Bool.false_ne_true), if_neg hp]; simp only [h]

end SlotRuns

/-- Everything running a slot can do when it answers a next state: the slot instruction ended in `next`
and the target is installed, it raised an exception, or its fetch did. -/
theorem runSlot_next {s u : State} (h : runSlot s = .next u) :
    (∃ v j x, Accessible s .read .word (s.pc + 2) ∧ (s.memRead .word (s.pc + 2)).setWidth 16 = v ∧ Encodes v j ∧
      slotIllegal j = false ∧ ¬(pcRelative j = true ∧ s.params.slotPcRel = .fault) ∧
      exec j { s with pc := s.pc + 2 } = .next x ∧
      ((∃ t undo, x.ds = .pending t undo ∧ u = { x with pc := t, ds := .normal }) ∨ (x.ds = .normal ∧ u = x))) ∨
    (Width.aligned .word (s.pc + 2) = false ∧ s.params.misaligned = .exception ∧
      takeException (.instructionAddressError (s.pc + 2)) s = .next u) := by
  unfold runSlot runSlotWord at h
  rcases State.fetch_next h with ⟨ha, h⟩ | h
  · cases hd : decode ((s.memRead .word (s.pc + 2)).setWidth 16) with
    | error e => cases e; rw [hd] at h; cases h
    | ok j =>
      rw [hd] at h
      simp only [runSlotInstr] at h
      split at h
      · cases h
      · next hi =>
        split at h
        · cases h
        · next hp =>
          cases he : exec j { s with pc := s.pc + 2 } with
          | next x =>
            simp only [he] at h
            refine .inl ⟨_, j, x, ha, rfl, hd, by simpa using hi, hp, he, ?_⟩
            cases hx : x.ds with
            | normal => simp only [hx] at h; cases h; exact .inr ⟨rfl, rfl⟩
            | pending t undo => simp only [hx] at h; cases h; exact .inl ⟨t, undo, rfl, rfl⟩
          | fault r => simp only [he] at h; cases h
          | refused r => simp only [he] at h; cases h
  · exact .inr h

/-! ## Operand forms -/

section Forms
variable {s u : State} {w : Width} {a v : Word}

theorem State.loadTo_accessible (h : Accessible s .read w a) (n : Reg) :
    s.loadTo w a n = .next (s.setR n (extendLoaded w (s.memRead w a))).advance := State.load_accessible h _

theorem State.loadPost_accessible {m : Reg} (h : Accessible s .read w (s.r m)) (n : Reg) :
    s.loadPost w m n = .next ((if m = n then s else s.setR m (s.r m + Width.size w)).setR n
      (extendLoaded w (s.memRead w (s.r m)))).advance := State.load_accessible h _

theorem State.storeTo_accessible (h : Accessible s .write w a) (v : Word) :
    s.storeTo w a v = .next (s.memWrite w a v).advance := State.store_accessible h _

theorem State.storePre_accessible {n : Reg} (h : Accessible s .write w (s.r n - Width.size w)) (v : Word) :
    s.storePre w n v = .next ((s.memWrite w (s.r n - Width.size w) v).setR n (s.r n - Width.size w)).advance :=
  State.store_accessible h _

theorem State.pop_accessible {m : Reg} (h : Accessible s .read .long (s.r m)) (k : State → Word → Result) :
    s.pop m k = k (s.setR m (s.r m + 4)) (s.memRead .long (s.r m)) := State.load_accessible h _

theorem State.readUnaligned_answered (h : s.answers .read a 4 = true) (k : Word → Result) :
    s.readUnaligned a k = k (s.memRead .long a) := by
  unfold State.readUnaligned State.answered; rw [if_pos h]

theorem State.modifyByte_modifiable (h : Modifiable s a) (f : Byte → Byte) (k : Byte → State → Result) :
    s.modifyByte a f k = k (s.byteAt a) (s.setByte a (f (s.byteAt a))) := by
  unfold State.modifyByte
  rw [State.load_accessible ⟨rfl, h.1⟩, State.store_accessible ⟨rfl, h.2⟩]
  have e : (s.memRead .byte a).setWidth 8 = s.byteAt a := by
    show ((s.byteAt a).setWidth 32).setWidth 8 = _
    rw [BitVec.setWidth_setWidth_of_le _ (by decide)]; exact BitVec.setWidth_eq _
  rw [e]
  have f' : byteOf ((f (s.byteAt a)).setWidth 32) 0 = f (s.byteAt a) := by
    show BitVec.extractLsb' (8 * 0) 8 _ = _
    apply BitVec.eq_of_getLsbD_eq
    intro i hi
    have : i < 32 := by omega
    simp [hi, this]
  show k _ (s.setByte a (byteOf _ 0)) = _
  rw [f']

end Forms

/-! ## Frames of the usual updates -/

theorem putBit_andNot (w : Word) (k : Nat) (v : Bool) (hk : k < 32) (mask : Word) (hm : mask.getLsbD k = true) :
    putBit w k v &&& ~~~mask = w &&& ~~~mask := by
  apply BitVec.eq_of_getLsbD_eq
  intro i hi
  simp only [BitVec.getLsbD_and, BitVec.getLsbD_not]
  rw [getLsbD_putBit _ _ _ _ hk]
  split
  · next e => subst e; simp [hm]
  · rfl

theorem SameSystem.refl (flags : Word) (s : State) : SameSystem flags s s := by constructor <;> rfl

theorem SameSystem.trans {f : Word} {s u x : State} (h : SameSystem f s u) (h' : SameSystem f u x) :
    SameSystem f s x := by
  constructor
  all_goals first
    | exact h'.status.trans h.status | exact h'.gbr.trans h.gbr | exact h'.vbr.trans h.vbr
    | exact h'.sgr.trans h.sgr | exact h'.ssr.trans h.ssr | exact h'.spc.trans h.spc | exact h'.dbr.trans h.dbr
    | exact h'.pr.trans h.pr | exact h'.mac.trans h.mac | exact h'.ldst.trans h.ldst
    | exact h'.sleeping.trans h.sleeping | exact h'.ds.trans h.ds | exact h'.expevt.trans h.expevt
    | exact h'.intevt.trans h.intevt | exact h'.tra.trans h.tra | exact h'.tea.trans h.tea
    | exact h'.params.trans h.params | exact h'.report.trans h.report | exact h'.events.trans h.events
    | exact h'.draws.trans h.draws | exact h'.ticks.trans h.ticks | exact h'.mark.trans h.mark

/-- A general-register write changes that register, and nothing of the system. -/
theorem SameSystem.setR (f : Word) (s : State) (n : Reg) (v : Word) : SameSystem f s (s.setR n v) := by
  constructor <;> simp

theorem SameSystem.setByte (f : Word) (s : State) (a : Word) (v : Byte) : SameSystem f s (s.setByte a v) := by
  constructor <;> rfl

theorem SameSystem.memWrite (f : Word) (s : State) (w : Width) (a v : Word) : SameSystem f s (s.memWrite w a v) := by
  constructor <;> simp

theorem SameSystem.advance (f : Word) (s : State) : SameSystem f s s.advance := by constructor <;> rfl

/-- A flag write changes that SR bit only (R36). -/
theorem SameSystem.setT {f : Word} (hf : f.getLsbD 0 = true) (s : State) (v : Bool) : SameSystem f s (s.setT v) := by
  constructor <;> first | rfl | exact putBit_andNot _ _ _ (by decide) _ hf

theorem SameSystem.setS {f : Word} (hf : f.getLsbD 1 = true) (s : State) (v : Bool) : SameSystem f s (s.setS v) := by
  constructor <;> first | rfl | exact putBit_andNot _ _ _ (by decide) _ hf

theorem SameSystem.setQ {f : Word} (hf : f.getLsbD 8 = true) (s : State) (v : Bool) : SameSystem f s (s.setQ v) := by
  constructor <;> first | rfl | exact putBit_andNot _ _ _ (by decide) _ hf

theorem SameSystem.setM {f : Word} (hf : f.getLsbD 9 = true) (s : State) (v : Bool) : SameSystem f s (s.setM v) := by
  constructor <;> first | rfl | exact putBit_andNot _ _ _ (by decide) _ hf

/-- Nothing but PC. -/
theorem OnlyWrites.done (s : State) : OnlyWrites [] 0 s s.advance :=
  ⟨rfl, fun _ _ => rfl, fun _ => rfl, SameSystem.advance 0 s, fun _ => rfl⟩

/-- One general register. -/
theorem OnlyWrites.setR (s : State) (n : Reg) (v : Word) : OnlyWrites [n] 0 s (s.setR n v).advance := by
  refine ⟨by simp, fun k hk => ?_, fun b => by simp, (SameSystem.setR 0 s n v).trans (SameSystem.advance 0 _), fun x => ?_⟩
  · have : k ≠ n := by simpa using hk
    rw [State.advance_r, State.setR_r, if_neg this]
  · exact State.setR_byteAt s n v x

/-- T only. -/
theorem OnlyWrites.setT (s : State) (v : Bool) : OnlyWrites [] tBit s (s.setT v).advance := by
  refine ⟨by simp, fun k _ => ?_, fun b => by simp, ?_, fun x => rfl⟩
  · rw [State.advance_r, State.setT_r]
  · exact (SameSystem.setT (by decide) s v).trans (SameSystem.advance _ _)

/-- One general register and T. -/
theorem OnlyWrites.setR_setT (s : State) (n : Reg) (v : Word) (b : Bool) :
    OnlyWrites [n] tBit s ((s.setR n v).setT b).advance := by
  refine ⟨by simp, fun k hk => ?_, fun c => by simp, ?_, fun x => ?_⟩
  · have : k ≠ n := by simpa using hk
    rw [State.advance_r, State.setT_r, State.setR_r, if_neg this]
  · exact ((SameSystem.setR _ s n v).trans (SameSystem.setT (by decide) _ b)).trans (SameSystem.advance _ _)
  · exact State.setR_byteAt s n v x

/-- A store. -/
theorem OnlyStores.memWrite (s : State) (w : Width) (a v : Word) :
    OnlyStores w a [] 0 s (s.memWrite w a v).advance := by
  refine ⟨by simp, fun k _ => by simp, fun b => by simp,
    (SameSystem.memWrite 0 s w a v).trans (SameSystem.advance _ _), fun x hx => ?_⟩
  exact State.memWrite_byteAt_other s w a v x hx

/-- A store and one general register. -/
theorem OnlyStores.memWrite_setR (s : State) (w : Width) (a v : Word) (n : Reg) (r : Word) :
    OnlyStores w a [n] 0 s ((s.memWrite w a v).setR n r).advance := by
  refine ⟨by simp, fun k hk => ?_, fun b => by simp,
    ((SameSystem.memWrite 0 s w a v).trans (SameSystem.setR _ _ n r)).trans (SameSystem.advance _ _), fun x hx => ?_⟩
  · have : k ≠ n := by simpa using hk
    rw [State.advance_r, State.setR_r, if_neg this, State.memWrite_r]
  · exact (State.setR_byteAt _ n r x).trans (State.memWrite_byteAt_other s w a v x hx)

/-- What a store leaves reads back (20 R81, R82). -/
theorem Holds.memWrite {s : State} {w : Width} {a : Word} (h : Keeps s a (Width.bytes w)) (v : Word) :
    Holds (s.memWrite w a v) w a v := State.memRead_memWrite s h.1 w a v h.2

theorem Holds.congr {s u : State} {w : Width} {a v : Word} (hm : u.mem = s.mem) (hp : u.params = s.params)
    (ht : u.ticks = s.ticks) (h : Holds s w a v) : Holds u w a v := (State.memRead_congr hm hp ht w a).trans h

/-- Two general registers. -/
theorem OnlyWrites.setR_setR (s : State) (m n : Reg) (v w : Word) :
    OnlyWrites [m, n] 0 s ((s.setR m v).setR n w).advance := by
  refine ⟨by simp, fun k hk => ?_, fun b => by simp,
    (SameSystem.setR 0 s m v).trans ((SameSystem.setR 0 _ n w).trans (SameSystem.advance 0 _)), fun x => ?_⟩
  · simp only [List.mem_cons, List.not_mem_nil, or_false, not_or] at hk
    simp [hk.1, hk.2]
  · exact (State.setR_byteAt _ n w x).trans (State.setR_byteAt s m v x)

/-- A frame holds with more registers named. -/
theorem OnlyWrites.mono {l l' : List Reg} (h : l ⊆ l') {f : Word} {s u : State} (hw : OnlyWrites l f s u) :
    OnlyWrites l' f s u :=
  ⟨hw.pc, fun k hk => hw.general k (fun hc => hk (h hc)), hw.banks, hw.system, hw.memory⟩

/-- One byte stored. -/
theorem OnlyStores.setByte (s : State) (a : Word) (v : Byte) :
    OnlyStores .byte a [] 0 s (s.setByte a v).advance := by
  have h := OnlyStores.memWrite s .byte a (v.setWidth 32)
  have e : s.memWrite .byte a (v.setWidth 32) = s.setByte a v := by
    show s.setByte a (byteOf _ 0) = _
    congr 1
    apply BitVec.eq_of_getLsbD_eq
    intro i hi
    have : i < 32 := by omega
    simp [byteOf, hi, this]
  rw [e] at h; exact h

/-- A store and T. -/
theorem OnlyStores.setT {w : Width} {a : Word} {l : List Reg} {s u : State} (h : OnlyStores w a l 0 s u.advance)
    (v : Bool) : OnlyStores w a l tBit s (u.setT v).advance := by
  refine ⟨h.pc, fun k hk => ?_, fun b => ?_, ?_, h.memory⟩
  · rw [← h.general k hk]; simp
  · rw [← h.banks b]; simp
  · have h0 : SameSystem tBit s u.advance := by
      have hs := h.system
      have all (x : Word) : x &&& ~~~(0 : Word) = x := BitVec.and_allOnes
      have e : u.advance.sr = s.sr := (all _).symm.trans (hs.status.trans (all _))
      exact ⟨congrArg (· &&& ~~~tBit) e, hs.gbr, hs.vbr, hs.sgr, hs.ssr, hs.spc, hs.dbr, hs.pr, hs.mac, hs.ldst,
        hs.sleeping, hs.ds, hs.mark, hs.expevt, hs.intevt, hs.tra, hs.tea, hs.params, hs.report, hs.events, hs.draws,
        hs.ticks⟩
    exact h0.trans (SameSystem.setT (by decide) u.advance v)

/-! ## Guarded instructions -/

/-- An instruction that is a load is guarded (20 R84, R87, R92). -/
theorem Guarded.of_load {i : Instr} {s : State} {w : Width} {a : Word} {k : Word → Result}
    (h : exec i s = s.load w a k) : Guarded .read w a i s :=
  ⟨fun ha => h.trans (State.load_misaligned ha k), fun ha hb => h.trans (State.load_unanswered ha hb k)⟩

/-- An instruction that is a store is guarded (20 R84, R87, R92). -/
theorem Guarded.of_store {i : Instr} {s : State} {w : Width} {a v : Word} {k : State → Result}
    (h : exec i s = s.store w a v k) : Guarded .write w a i s :=
  ⟨fun ha => h.trans (State.store_misaligned ha k), fun ha hb => h.trans (State.store_unanswered ha hb k)⟩

/-! ## A system register written over a general register -/

section Commute
variable (s : State) (i : Reg) (v : Word)

theorem State.setR_with_gbr (x : Word) : ({ s.setR i v with gbr := x } : State) = State.setR { s with gbr := x } i v := by
  have h : ({ s with gbr := x } : State).sel = s.sel := rfl
  unfold State.setR; rw [h]
  split
  · rfl
  · split <;> rfl

theorem State.setR_with_vbr (x : Word) : ({ s.setR i v with vbr := x } : State) = State.setR { s with vbr := x } i v := by
  have h : ({ s with vbr := x } : State).sel = s.sel := rfl
  unfold State.setR; rw [h]
  split
  · rfl
  · split <;> rfl

theorem State.setR_with_sgr (x : Word) : ({ s.setR i v with sgr := x } : State) = State.setR { s with sgr := x } i v := by
  have h : ({ s with sgr := x } : State).sel = s.sel := rfl
  unfold State.setR; rw [h]
  split
  · rfl
  · split <;> rfl

theorem State.setR_with_ssr (x : Word) : ({ s.setR i v with ssr := x } : State) = State.setR { s with ssr := x } i v := by
  have h : ({ s with ssr := x } : State).sel = s.sel := rfl
  unfold State.setR; rw [h]
  split
  · rfl
  · split <;> rfl

theorem State.setR_with_spc (x : Word) : ({ s.setR i v with spc := x } : State) = State.setR { s with spc := x } i v := by
  have h : ({ s with spc := x } : State).sel = s.sel := rfl
  unfold State.setR; rw [h]
  split
  · rfl
  · split <;> rfl

theorem State.setR_with_dbr (x : Word) : ({ s.setR i v with dbr := x } : State) = State.setR { s with dbr := x } i v := by
  have h : ({ s with dbr := x } : State).sel = s.sel := rfl
  unfold State.setR; rw [h]
  split
  · rfl
  · split <;> rfl

theorem State.setR_with_pr (x : Word) : ({ s.setR i v with pr := x } : State) = State.setR { s with pr := x } i v := by
  have h : ({ s with pr := x } : State).sel = s.sel := rfl
  unfold State.setR; rw [h]
  split
  · rfl
  · split <;> rfl

theorem State.setR_with_mac (x : BitVec 64) : ({ s.setR i v with mac := x } : State) = State.setR { s with mac := x } i v := by
  have h : ({ s with mac := x } : State).sel = s.sel := rfl
  unfold State.setR; rw [h]
  split
  · rfl
  · split <;> rfl

theorem State.setR_with_ldst (x : Bool) : ({ s.setR i v with ldst := x } : State) = State.setR { s with ldst := x } i v := by
  have h : ({ s with ldst := x } : State).sel = s.sel := rfl
  unfold State.setR; rw [h]
  split
  · rfl
  · split <;> rfl

end Commute

end Sys2Proof.Machine
end

