-- ==== Sys2Proof/Laws/Exec.lean ====
section
/-! SUPPORT. What executing any instruction can do, said once: `exec_next` answers that it took an exception,
or kept everything `Kept` names, or entered a delay slot as `Delays` says. Every invariant and every frame
over all instructions starts here. Also the lists of instructions of Safety as the controller tests them. -/

namespace Sys2Proof.Machine

/-- What an instruction that neither took an exception nor entered a slot keeps, whatever its operands (10
R36, R37; 20 R85; 47 R584). -/
structure Kept (i : Instr) (s u : State) : Prop where
  params : u.params = s.params
  events : u.events = s.events
  mark : u.mark = s.mark
  ticks : u.ticks = s.ticks
  report : u.report = s.report
  expevt : u.expevt = s.expevt
  intevt : u.intevt = s.intevt
  tra : u.tra = s.tra
  tea : u.tea = s.tea
  slot : u.ds = s.ds
  wf : Memory.wf s.mem = true → Memory.wf u.mem = true
  mem : writesMemory i = false → u.mem = s.mem
  tFlag : writesT i = false → u.t = s.t
  sFlag : writesS i = false → u.s = s.s
  qFlag : writesQ i = false → u.q = s.q
  mFlag : writesM i = false → u.m = s.m
  status : writesStatus i = false →
    u.sr &&& ~~~(tBit ||| sBit ||| qBit ||| mBit) = s.sr &&& ~~~(tBit ||| sBit ||| qBit ||| mBit)
  masked : s.sr &&& ~~~srMask = 0 → u.sr &&& ~~~srMask = 0
  control : privilegedInstr i = false →
    u.vbr = s.vbr ∧ u.sgr = s.sgr ∧ u.ssr = s.ssr ∧ u.spc = s.spc ∧ u.dbr = s.dbr
  banks : privilegedInstr i = false → SameBanks s u

/-- What a delayed branch does (44 R400, R401): PR, SR (RTE only) and DS are all it writes. -/
def Delays (i : Instr) (s u : State) : Prop :=
  delayedBranch i = true ∧
  (∃ t, u = { s with pr := u.pr, sr := u.sr, ds := .pending t ⟨s.pc, s.pr, s.sr⟩ }) ∧
  (u.sr = s.sr ∨ (i = .rte ∧ u.sr = s.ssr &&& srMask))

/-- How a meaning ends, seen from `s`: in an exception taken from `s`, or in a state that satisfies `post`,
or with no next state. -/
def Ends (s : State) (post : State → Prop) (r : Result) : Prop :=
  ∀ u, r = .next u → (∃ e, takeException e s = .next u) ∨ post u

section Ends
variable {s : State} {post : State → Prop}

theorem Ends.next {x : State} (h : post x) : Ends s post (.next x) := fun _ hu => .inr (Host.Outcome.next.inj hu ▸ h)

theorem Ends.done {x : State} (h : post x.advance) : Ends s post x.done := Ends.next h

theorem Ends.exception (e : Exc) : Ends s post (takeException e s) := fun _ hu => .inl ⟨e, hu⟩

theorem Ends.privileged {go : Result} (h : Ends s post go) : Ends s post (s.privileged go) := fun u hu => by
  rcases State.privileged_next hu with ⟨_, hu⟩ | ⟨_, hu⟩
  · exact h u hu
  · exact .inl ⟨_, hu⟩

theorem Ends.load {w : Width} {a : Word} {k : Word → Result} (h : ∀ v, Ends s post (k v)) :
    Ends s post (s.load w a k) := fun u hu => by
  rcases State.load_next hu with ⟨_, hu⟩ | ⟨_, _, hu⟩
  · exact h _ u hu
  · exact .inl ⟨_, hu⟩

theorem Ends.store {w : Width} {a v : Word} {k : State → Result} (h : Ends s post (k (s.memWrite w a v))) :
    Ends s post (s.store w a v k) := fun u hu => by
  rcases State.store_next hu with ⟨_, hu⟩ | ⟨_, _, hu⟩
  · exact h u hu
  · exact .inl ⟨_, hu⟩

theorem Ends.answered {d : Direction} {a : Word} {n : Nat} {go : Result} (h : Ends s post go) :
    Ends s post (s.answered d a n go) :=
  fun u hu => h u (State.answered_next hu).2

theorem Ends.loadTo {w : Width} {a : Word} {n : Reg} (h : ∀ v, post (s.setR n v).advance) :
    Ends s post (s.loadTo w a n) := Ends.load fun _ => Ends.done (h _)

theorem Ends.loadPost {w : Width} {m n : Reg}
    (h : ∀ v, post ((if m = n then s else s.setR m (s.r m + Width.size w)).setR n v).advance) :
    Ends s post (s.loadPost w m n) := Ends.load fun _ => Ends.done (h _)

theorem Ends.storePre {w : Width} {n : Reg} {v : Word}
    (h : post ((s.memWrite w (s.r n - Width.size w) v).setR n (s.r n - Width.size w)).advance) :
    Ends s post (s.storePre w n v) := Ends.store (Ends.done h)

theorem Ends.pop {m : Reg} {k : State → Word → Result} (h : ∀ v, Ends s post (k (s.setR m (s.r m + 4)) v)) :
    Ends s post (s.pop m k) := Ends.load h

theorem Ends.readUnaligned {a : Word} {k : Word → Result} (h : ∀ v, Ends s post (k v)) :
    Ends s post (s.readUnaligned a k) := Ends.answered (h _)

theorem Ends.macOperands {w : Width} {m n : Reg} {k : Word → Word → Result} (h : ∀ v v', Ends s post (k v v')) :
    Ends s post (s.macOperands w m n k) := Ends.load fun _ => Ends.load fun _ => h _ _

theorem Ends.storeTo {w : Width} {a v : Word} (h : post (s.memWrite w a v).advance) : Ends s post (s.storeTo w a v) :=
  Ends.store (Ends.done h)

theorem Ends.modifyByte {a : Word} {f : Byte → Byte} {k : Byte → State → Result}
    (h : ∀ b, Ends s post (k b (s.memWrite .byte a ((f b).setWidth 32)))) : Ends s post (s.modifyByte a f k) :=
  Ends.load fun v => Ends.store (h (v.setWidth 8))

theorem Ends.refused (r : Refusal) : Ends s post (.refused r) := fun _ hu => nomatch hu

theorem Ends.ite {c : Prop} [Decidable c] {x y : Result} (hx : Ends s post x) (hy : Ends s post y) :
    Ends s post (if c then x else y) := by split <;> assumption

end Ends

/-! ## What each update keeps -/

section Updates
variable {i : Instr} {s x : State}

theorem Kept.refl : Kept i s s :=
  ⟨rfl, rfl, rfl, rfl, rfl, rfl, rfl, rfl, rfl, rfl, id, fun _ => rfl, fun _ => rfl, fun _ => rfl, fun _ => rfl, fun _ => rfl,
    fun _ => rfl, id, fun _ => ⟨rfl, rfl, rfl, rfl, rfl⟩, fun _ _ => rfl⟩

/-- An update that writes none of the named fields but the control and bank registers. -/
theorem Kept.over {u : State} (h : Kept i s x) (hp : u.params = x.params) (he : u.events = x.events)
    (hg : u.mark = x.mark) (ht : u.ticks = x.ticks)
    (hr : u.report = x.report) (h1 : u.expevt = x.expevt) (h2 : u.intevt = x.intevt) (h3 : u.tra = x.tra)
    (h4 : u.tea = x.tea) (hd : u.ds = x.ds) (hm : u.mem = x.mem) (hs : u.sr = x.sr)
    (hk : privilegedInstr i = false →
      (u.vbr = x.vbr ∧ u.sgr = x.sgr ∧ u.ssr = x.ssr ∧ u.spc = x.spc ∧ u.dbr = x.dbr) ∧ SameBanks x u) :
    Kept i s u where
  params := hp.trans h.params
  events := he.trans h.events
  mark := hg.trans h.mark
  ticks := ht.trans h.ticks
  report := hr.trans h.report
  expevt := h1.trans h.expevt
  intevt := h2.trans h.intevt
  tra := h3.trans h.tra
  tea := h4.trans h.tea
  slot := hd.trans h.slot
  wf := fun hw => by rw [hm]; exact h.wf hw
  mem := fun hw => hm.trans (h.mem hw)
  tFlag := fun hw => (congrArg (·.getLsbD 0) hs).trans (h.tFlag hw)
  sFlag := fun hw => (congrArg (·.getLsbD 1) hs).trans (h.sFlag hw)
  qFlag := fun hw => (congrArg (·.getLsbD 8) hs).trans (h.qFlag hw)
  mFlag := fun hw => (congrArg (·.getLsbD 9) hs).trans (h.mFlag hw)
  status := fun hw => by rw [hs]; exact h.status hw
  masked := fun hw => by rw [hs]; exact h.masked hw
  control := fun hw => by
    obtain ⟨⟨a1, a2, a3, a4, a5⟩, _⟩ := hk hw
    obtain ⟨g1, g2, g3, g4, g5⟩ := h.control hw
    exact ⟨a1.trans g1, a2.trans g2, a3.trans g3, a4.trans g4, a5.trans g5⟩
  banks := fun hw b => ((hk hw).2 b).trans (h.banks hw b)

theorem Kept.advance (h : Kept i s x) : Kept i s x.advance :=
  h.over rfl rfl rfl rfl rfl rfl rfl rfl rfl rfl rfl rfl fun _ => ⟨⟨rfl, rfl, rfl, rfl, rfl⟩, fun _ => rfl⟩

theorem Kept.setR (h : Kept i s x) (n : Reg) (v : Word) : Kept i s (x.setR n v) := by
  apply h.over <;> simp [SameBanks]

theorem Kept.mac (h : Kept i s x) (v : BitVec 64) : Kept i s { x with mac := v } :=
  h.over rfl rfl rfl rfl rfl rfl rfl rfl rfl rfl rfl rfl fun _ => ⟨⟨rfl, rfl, rfl, rfl, rfl⟩, fun _ => rfl⟩

theorem Kept.setMach (h : Kept i s x) (v : Word) : Kept i s (x.setMach v) := h.mac _

theorem Kept.setMacl (h : Kept i s x) (v : Word) : Kept i s (x.setMacl v) := h.mac _

theorem Kept.pr (h : Kept i s x) (v : Word) : Kept i s { x with pr := v } :=
  h.over rfl rfl rfl rfl rfl rfl rfl rfl rfl rfl rfl rfl fun _ => ⟨⟨rfl, rfl, rfl, rfl, rfl⟩, fun _ => rfl⟩

theorem Kept.pc (h : Kept i s x) (v : Word) : Kept i s { x with pc := v } :=
  h.over rfl rfl rfl rfl rfl rfl rfl rfl rfl rfl rfl rfl fun _ => ⟨⟨rfl, rfl, rfl, rfl, rfl⟩, fun _ => rfl⟩

theorem Kept.gbr (h : Kept i s x) (v : Word) : Kept i s { x with gbr := v } :=
  h.over rfl rfl rfl rfl rfl rfl rfl rfl rfl rfl rfl rfl fun _ => ⟨⟨rfl, rfl, rfl, rfl, rfl⟩, fun _ => rfl⟩

theorem Kept.ldst (h : Kept i s x) (v : Bool) : Kept i s { x with ldst := v } :=
  h.over rfl rfl rfl rfl rfl rfl rfl rfl rfl rfl rfl rfl fun _ => ⟨⟨rfl, rfl, rfl, rfl, rfl⟩, fun _ => rfl⟩

theorem Kept.sleeping (h : Kept i s x) (v : Bool) : Kept i s { x with sleeping := v } :=
  h.over rfl rfl rfl rfl rfl rfl rfl rfl rfl rfl rfl rfl fun _ => ⟨⟨rfl, rfl, rfl, rfl, rfl⟩, fun _ => rfl⟩

theorem Kept.draws (h : Kept i s x) (v : Nat) : Kept i s { x with draws := v } :=
  h.over rfl rfl rfl rfl rfl rfl rfl rfl rfl rfl rfl rfl fun _ => ⟨⟨rfl, rfl, rfl, rfl, rfl⟩, fun _ => rfl⟩

/-- The control registers are written by privileged instructions only. -/
theorem Kept.vbr (h : Kept i s x) (hp : privilegedInstr i = true) (v : Word) : Kept i s { x with vbr := v } :=
  h.over rfl rfl rfl rfl rfl rfl rfl rfl rfl rfl rfl rfl fun hn => nomatch hp.symm.trans hn

theorem Kept.sgr (h : Kept i s x) (hp : privilegedInstr i = true) (v : Word) : Kept i s { x with sgr := v } :=
  h.over rfl rfl rfl rfl rfl rfl rfl rfl rfl rfl rfl rfl fun hn => nomatch hp.symm.trans hn

theorem Kept.ssr (h : Kept i s x) (hp : privilegedInstr i = true) (v : Word) : Kept i s { x with ssr := v } :=
  h.over rfl rfl rfl rfl rfl rfl rfl rfl rfl rfl rfl rfl fun hn => nomatch hp.symm.trans hn

theorem Kept.spc (h : Kept i s x) (hp : privilegedInstr i = true) (v : Word) : Kept i s { x with spc := v } :=
  h.over rfl rfl rfl rfl rfl rfl rfl rfl rfl rfl rfl rfl fun hn => nomatch hp.symm.trans hn

theorem Kept.dbr (h : Kept i s x) (hp : privilegedInstr i = true) (v : Word) : Kept i s { x with dbr := v } :=
  h.over rfl rfl rfl rfl rfl rfl rfl rfl rfl rfl rfl rfl fun hn => nomatch hp.symm.trans hn

theorem Kept.setRBank (h : Kept i s x) (hp : privilegedInstr i = true) (b : BankReg) (v : Word) :
    Kept i s (x.setRBank b v) := by
  apply h.over <;> first | (intro hn; exact nomatch hp.symm.trans hn) | simp

/-- Memory is written by the writers of 20 R85 only. -/
theorem Kept.memory (h : Kept i s x) (hm : writesMemory i = true) {m : Memory}
    (hw : Memory.wf x.mem = true → Memory.wf m = true) : Kept i s { x with mem := m } :=
  ⟨h.params, h.events, h.mark, h.ticks, h.report, h.expevt, h.intevt, h.tra, h.tea, h.slot, fun hs => hw (h.wf hs),
    fun hn => (nomatch hm.symm.trans hn), h.tFlag, h.sFlag, h.qFlag, h.mFlag, h.status, h.masked, h.control, h.banks⟩

theorem Kept.setByte (h : Kept i s x) (hm : writesMemory i = true) (a : Word) (v : Byte) : Kept i s (x.setByte a v) :=
  h.memory hm fun hw => State.setByte_wf hw a v

theorem Kept.memWrite (h : Kept i s x) (hm : writesMemory i = true) (w : Width) (a v : Word) :
    Kept i s (x.memWrite w a v) := by
  unfold State.memWrite
  have two := fun y b z c => (h.setByte hm y b).setByte hm z c
  split
  · exact h.setByte hm _ _
  · exact two _ _ _ _
  · exact two _ _ _ _
  · exact ((two _ _ _ _).setByte hm _ _).setByte hm _ _
  · exact ((two _ _ _ _).setByte hm _ _).setByte hm _ _

/-- A flag bit of SR is inside the flags and inside SR_MASK. -/
theorem putBit_masked {w : Word} (k : Nat) (v : Bool) (hk : k < 32) (hm : srMask.getLsbD k = true)
    (h : w &&& ~~~srMask = 0) : putBit w k v &&& ~~~srMask = 0 := by
  rw [putBit_andNot _ _ _ hk _ hm]; exact h

/-- T is written by its writers only. -/
theorem Kept.setT (h : Kept i s x) (hw : writesT i = true) (v : Bool) : Kept i s (x.setT v) where
  params := h.params
  events := h.events
  mark := h.mark
  ticks := h.ticks
  report := h.report
  expevt := h.expevt
  intevt := h.intevt
  tra := h.tra
  tea := h.tea
  slot := h.slot
  wf := h.wf
  mem := h.mem
  tFlag := fun hn => nomatch hw.symm.trans hn
  sFlag := fun hn => (getLsbD_putBit_other _ _ _ _ (by decide) (by decide)).trans (h.sFlag hn)
  qFlag := fun hn => (getLsbD_putBit_other _ _ _ _ (by decide) (by decide)).trans (h.qFlag hn)
  mFlag := fun hn => (getLsbD_putBit_other _ _ _ _ (by decide) (by decide)).trans (h.mFlag hn)
  status := fun hn => (putBit_andNot _ _ _ (by decide) _ (by decide)).trans (h.status hn)
  masked := fun hs => putBit_masked _ _ (by decide) (by decide) (h.masked hs)
  control := h.control
  banks := fun hn b => by rw [State.setT_rBank]; exact h.banks hn b

/-- S is written by its writers only. -/
theorem Kept.setS (h : Kept i s x) (hw : writesS i = true) (v : Bool) : Kept i s (x.setS v) where
  params := h.params
  events := h.events
  mark := h.mark
  ticks := h.ticks
  report := h.report
  expevt := h.expevt
  intevt := h.intevt
  tra := h.tra
  tea := h.tea
  slot := h.slot
  wf := h.wf
  mem := h.mem
  tFlag := fun hn => (getLsbD_putBit_other _ _ _ _ (by decide) (by decide)).trans (h.tFlag hn)
  sFlag := fun hn => nomatch hw.symm.trans hn
  qFlag := fun hn => (getLsbD_putBit_other _ _ _ _ (by decide) (by decide)).trans (h.qFlag hn)
  mFlag := fun hn => (getLsbD_putBit_other _ _ _ _ (by decide) (by decide)).trans (h.mFlag hn)
  status := fun hn => (putBit_andNot _ _ _ (by decide) _ (by decide)).trans (h.status hn)
  masked := fun hs => putBit_masked _ _ (by decide) (by decide) (h.masked hs)
  control := h.control
  banks := fun hn b => by rw [State.setS_rBank]; exact h.banks hn b

/-- Q is written by its writers only. -/
theorem Kept.setQ (h : Kept i s x) (hw : writesQ i = true) (v : Bool) : Kept i s (x.setQ v) where
  params := h.params
  events := h.events
  mark := h.mark
  ticks := h.ticks
  report := h.report
  expevt := h.expevt
  intevt := h.intevt
  tra := h.tra
  tea := h.tea
  slot := h.slot
  wf := h.wf
  mem := h.mem
  tFlag := fun hn => (getLsbD_putBit_other _ _ _ _ (by decide) (by decide)).trans (h.tFlag hn)
  sFlag := fun hn => (getLsbD_putBit_other _ _ _ _ (by decide) (by decide)).trans (h.sFlag hn)
  qFlag := fun hn => nomatch hw.symm.trans hn
  mFlag := fun hn => (getLsbD_putBit_other _ _ _ _ (by decide) (by decide)).trans (h.mFlag hn)
  status := fun hn => (putBit_andNot _ _ _ (by decide) _ (by decide)).trans (h.status hn)
  masked := fun hs => putBit_masked _ _ (by decide) (by decide) (h.masked hs)
  control := h.control
  banks := fun hn b => by rw [State.setQ_rBank]; exact h.banks hn b

/-- M is written by its writers only. -/
theorem Kept.setM (h : Kept i s x) (hw : writesM i = true) (v : Bool) : Kept i s (x.setM v) where
  params := h.params
  events := h.events
  mark := h.mark
  ticks := h.ticks
  report := h.report
  expevt := h.expevt
  intevt := h.intevt
  tra := h.tra
  tea := h.tea
  slot := h.slot
  wf := h.wf
  mem := h.mem
  tFlag := fun hn => (getLsbD_putBit_other _ _ _ _ (by decide) (by decide)).trans (h.tFlag hn)
  sFlag := fun hn => (getLsbD_putBit_other _ _ _ _ (by decide) (by decide)).trans (h.sFlag hn)
  qFlag := fun hn => (getLsbD_putBit_other _ _ _ _ (by decide) (by decide)).trans (h.qFlag hn)
  mFlag := fun hn => nomatch hw.symm.trans hn
  status := fun hn => (putBit_andNot _ _ _ (by decide) _ (by decide)).trans (h.status hn)
  masked := fun hs => putBit_masked _ _ (by decide) (by decide) (h.masked hs)
  control := h.control
  banks := fun hn b => by rw [State.setM_rBank]; exact h.banks hn b

/-- A whole SR value is written by LDC and LDC.L to SR only (RTE enters a slot). -/
theorem Kept.setSr (h : Kept i s x) (hw : writesStatus i = true) (hp : privilegedInstr i = true) (v : Word) :
    Kept i s (x.setSr v) where
  params := h.params
  events := h.events
  mark := h.mark
  ticks := h.ticks
  report := h.report
  expevt := h.expevt
  intevt := h.intevt
  tra := h.tra
  tea := h.tea
  slot := h.slot
  wf := h.wf
  mem := h.mem
  tFlag := fun hn => by unfold writesT at hn; rw [hw] at hn; exact nomatch hn
  sFlag := fun hn => by unfold writesS at hn; rw [hw] at hn; exact nomatch hn
  qFlag := fun hn => by unfold writesQ at hn; rw [hw] at hn; exact nomatch hn
  mFlag := fun hn => by unfold writesM at hn; rw [hw] at hn; exact nomatch hn
  status := fun hn => nomatch hw.symm.trans hn
  masked := fun _ => by
    show v &&& srMask &&& ~~~srMask = 0
    rw [BitVec.and_assoc]
    exact (congrArg (v &&& ·) (by decide : srMask &&& ~~~srMask = 0)).trans BitVec.and_zero
  control := fun hn => nomatch hp.symm.trans hn
  banks := fun hn => nomatch hp.symm.trans hn

/-- The pointers of MAC.L and MAC.W. -/
theorem Kept.macPointers (w : Width) (m n : Reg) : Kept i s (s.macPointers w m n) := by
  unfold State.macPointers
  split
  · exact Kept.refl.setR _ _
  · exact (Kept.refl.setR _ _).setR _ _

/-- The pointer of a post-increment load. -/
theorem Kept.iteSetR {c : Prop} [Decidable c] (m : Reg) (v : Word) : Kept i s (if c then s else s.setR m v) := by
  split
  · exact Kept.refl
  · exact Kept.refl.setR _ _

/-- A delayed branch that writes PR or SR and enters the slot. -/
theorem Delays.of_write {x : State} (hb : delayedBranch i = true) (h : x = { s with pr := x.pr, sr := x.sr })
    (t : Word) (hs : x.sr = s.sr ∨ (i = .rte ∧ x.sr = s.ssr &&& srMask)) :
    Delays i s { x with ds := .pending t ⟨s.pc, s.pr, s.sr⟩ } := by
  refine ⟨hb, ⟨t, ?_⟩, hs⟩
  show ({ x with ds := DelayState.pending t ⟨s.pc, s.pr, s.sr⟩ } : State) = _
  conv => lhs; rw [h]

end Updates

/-! ## Each instruction -/

/-- How executing an instruction ends. -/
def ExecEnds (i : Instr) (s : State) : Prop := Ends s (fun u => Kept i s u ∨ Delays i s u) (exec i s)

theorem ExecEnds.add (m : Reg) (n : Reg) (s : State) : ExecEnds (.add m n) s :=
  Ends.done (.inl (Kept.refl.setR _ _).advance)

theorem ExecEnds.addImm (i : BitVec 8) (n : Reg) (s : State) : ExecEnds (.addImm i n) s :=
  Ends.done (.inl (Kept.refl.setR _ _).advance)

theorem ExecEnds.addc (m : Reg) (n : Reg) (s : State) : ExecEnds (.addc m n) s :=
  Ends.done (.inl ((Kept.refl.setR _ _).setT rfl _).advance)

theorem ExecEnds.addv (m : Reg) (n : Reg) (s : State) : ExecEnds (.addv m n) s :=
  Ends.done (.inl ((Kept.refl.setR _ _).setT rfl _).advance)

theorem ExecEnds.sub (m : Reg) (n : Reg) (s : State) : ExecEnds (.sub m n) s :=
  Ends.done (.inl (Kept.refl.setR _ _).advance)

theorem ExecEnds.subc (m : Reg) (n : Reg) (s : State) : ExecEnds (.subc m n) s :=
  Ends.done (.inl ((Kept.refl.setR _ _).setT rfl _).advance)

theorem ExecEnds.subv (m : Reg) (n : Reg) (s : State) : ExecEnds (.subv m n) s :=
  Ends.done (.inl ((Kept.refl.setR _ _).setT rfl _).advance)

theorem ExecEnds.neg (m : Reg) (n : Reg) (s : State) : ExecEnds (.neg m n) s :=
  Ends.done (.inl (Kept.refl.setR _ _).advance)

theorem ExecEnds.negc (m : Reg) (n : Reg) (s : State) : ExecEnds (.negc m n) s :=
  Ends.done (.inl ((Kept.refl.setR _ _).setT rfl _).advance)

theorem ExecEnds.dt (n : Reg) (s : State) : ExecEnds (.dt n) s :=
  Ends.done (.inl ((Kept.refl.setR _ _).setT rfl _).advance)

theorem ExecEnds.extsB (m : Reg) (n : Reg) (s : State) : ExecEnds (.extsB m n) s :=
  Ends.done (.inl (Kept.refl.setR _ _).advance)

theorem ExecEnds.extsW (m : Reg) (n : Reg) (s : State) : ExecEnds (.extsW m n) s :=
  Ends.done (.inl (Kept.refl.setR _ _).advance)

theorem ExecEnds.extuB (m : Reg) (n : Reg) (s : State) : ExecEnds (.extuB m n) s :=
  Ends.done (.inl (Kept.refl.setR _ _).advance)

theorem ExecEnds.extuW (m : Reg) (n : Reg) (s : State) : ExecEnds (.extuW m n) s :=
  Ends.done (.inl (Kept.refl.setR _ _).advance)

theorem ExecEnds.cmpEq (m : Reg) (n : Reg) (s : State) : ExecEnds (.cmpEq m n) s :=
  Ends.done (.inl (Kept.refl.setT rfl _).advance)

theorem ExecEnds.cmpEqImm (i : BitVec 8) (s : State) : ExecEnds (.cmpEqImm i) s :=
  Ends.done (.inl (Kept.refl.setT rfl _).advance)

theorem ExecEnds.cmpHs (m : Reg) (n : Reg) (s : State) : ExecEnds (.cmpHs m n) s :=
  Ends.done (.inl (Kept.refl.setT rfl _).advance)

theorem ExecEnds.cmpGe (m : Reg) (n : Reg) (s : State) : ExecEnds (.cmpGe m n) s :=
  Ends.done (.inl (Kept.refl.setT rfl _).advance)

theorem ExecEnds.cmpHi (m : Reg) (n : Reg) (s : State) : ExecEnds (.cmpHi m n) s :=
  Ends.done (.inl (Kept.refl.setT rfl _).advance)

theorem ExecEnds.cmpGt (m : Reg) (n : Reg) (s : State) : ExecEnds (.cmpGt m n) s :=
  Ends.done (.inl (Kept.refl.setT rfl _).advance)

theorem ExecEnds.cmpPz (n : Reg) (s : State) : ExecEnds (.cmpPz n) s :=
  Ends.done (.inl (Kept.refl.setT rfl _).advance)

theorem ExecEnds.cmpPl (n : Reg) (s : State) : ExecEnds (.cmpPl n) s :=
  Ends.done (.inl (Kept.refl.setT rfl _).advance)

theorem ExecEnds.cmpStr (m : Reg) (n : Reg) (s : State) : ExecEnds (.cmpStr m n) s :=
  Ends.done (.inl (Kept.refl.setT rfl _).advance)

theorem ExecEnds.andReg (m : Reg) (n : Reg) (s : State) : ExecEnds (.andReg m n) s :=
  Ends.done (.inl (Kept.refl.setR _ _).advance)

theorem ExecEnds.andImm (i : BitVec 8) (s : State) : ExecEnds (.andImm i) s :=
  Ends.done (.inl (Kept.refl.setR _ _).advance)

theorem ExecEnds.andB (i : BitVec 8) (s : State) : ExecEnds (.andB i) s := by
  show Ends s _ (execAndB i s)
  unfold execAndB
  exact Ends.modifyByte fun _ => Ends.done (.inl (Kept.refl.memWrite rfl _ _ _).advance)

theorem ExecEnds.orReg (m : Reg) (n : Reg) (s : State) : ExecEnds (.orReg m n) s :=
  Ends.done (.inl (Kept.refl.setR _ _).advance)

theorem ExecEnds.orImm (i : BitVec 8) (s : State) : ExecEnds (.orImm i) s :=
  Ends.done (.inl (Kept.refl.setR _ _).advance)

theorem ExecEnds.orB (i : BitVec 8) (s : State) : ExecEnds (.orB i) s := by
  show Ends s _ (execOrB i s)
  unfold execOrB
  exact Ends.modifyByte fun _ => Ends.done (.inl (Kept.refl.memWrite rfl _ _ _).advance)

theorem ExecEnds.xorReg (m : Reg) (n : Reg) (s : State) : ExecEnds (.xorReg m n) s :=
  Ends.done (.inl (Kept.refl.setR _ _).advance)

theorem ExecEnds.xorImm (i : BitVec 8) (s : State) : ExecEnds (.xorImm i) s :=
  Ends.done (.inl (Kept.refl.setR _ _).advance)

theorem ExecEnds.xorB (i : BitVec 8) (s : State) : ExecEnds (.xorB i) s := by
  show Ends s _ (execXorB i s)
  unfold execXorB
  exact Ends.modifyByte fun _ => Ends.done (.inl (Kept.refl.memWrite rfl _ _ _).advance)

theorem ExecEnds.notReg (m : Reg) (n : Reg) (s : State) : ExecEnds (.notReg m n) s :=
  Ends.done (.inl (Kept.refl.setR _ _).advance)

theorem ExecEnds.tst (m : Reg) (n : Reg) (s : State) : ExecEnds (.tst m n) s :=
  Ends.done (.inl (Kept.refl.setT rfl _).advance)

theorem ExecEnds.tstImm (i : BitVec 8) (s : State) : ExecEnds (.tstImm i) s :=
  Ends.done (.inl (Kept.refl.setT rfl _).advance)

theorem ExecEnds.tasB (n : Reg) (s : State) : ExecEnds (.tasB n) s := by
  show Ends s _ (execTasB n s)
  unfold execTasB
  exact Ends.modifyByte fun _ => Ends.done (.inl ((Kept.refl.memWrite rfl _ _ _).setT rfl _).advance)

theorem ExecEnds.tstB (i : BitVec 8) (s : State) : ExecEnds (.tstB i) s := by
  show Ends s _ (execTstB i s)
  unfold execTstB
  exact Ends.load fun _ => Ends.done (.inl (Kept.refl.setT rfl _).advance)

theorem ExecEnds.shll (n : Reg) (s : State) : ExecEnds (.shll n) s :=
  Ends.done (.inl ((Kept.refl.setR _ _).setT rfl _).advance)

theorem ExecEnds.shlr (n : Reg) (s : State) : ExecEnds (.shlr n) s :=
  Ends.done (.inl ((Kept.refl.setR _ _).setT rfl _).advance)

theorem ExecEnds.shal (n : Reg) (s : State) : ExecEnds (.shal n) s :=
  Ends.done (.inl ((Kept.refl.setR _ _).setT rfl _).advance)

theorem ExecEnds.shar (n : Reg) (s : State) : ExecEnds (.shar n) s :=
  Ends.done (.inl ((Kept.refl.setR _ _).setT rfl _).advance)

theorem ExecEnds.shll2 (n : Reg) (s : State) : ExecEnds (.shll2 n) s :=
  Ends.done (.inl (Kept.refl.setR _ _).advance)

theorem ExecEnds.shlr2 (n : Reg) (s : State) : ExecEnds (.shlr2 n) s :=
  Ends.done (.inl (Kept.refl.setR _ _).advance)

theorem ExecEnds.shll8 (n : Reg) (s : State) : ExecEnds (.shll8 n) s :=
  Ends.done (.inl (Kept.refl.setR _ _).advance)

theorem ExecEnds.shlr8 (n : Reg) (s : State) : ExecEnds (.shlr8 n) s :=
  Ends.done (.inl (Kept.refl.setR _ _).advance)

theorem ExecEnds.shll16 (n : Reg) (s : State) : ExecEnds (.shll16 n) s :=
  Ends.done (.inl (Kept.refl.setR _ _).advance)

theorem ExecEnds.shlr16 (n : Reg) (s : State) : ExecEnds (.shlr16 n) s :=
  Ends.done (.inl (Kept.refl.setR _ _).advance)

theorem ExecEnds.rotl (n : Reg) (s : State) : ExecEnds (.rotl n) s :=
  Ends.done (.inl ((Kept.refl.setR _ _).setT rfl _).advance)

theorem ExecEnds.rotr (n : Reg) (s : State) : ExecEnds (.rotr n) s :=
  Ends.done (.inl ((Kept.refl.setR _ _).setT rfl _).advance)

theorem ExecEnds.rotcl (n : Reg) (s : State) : ExecEnds (.rotcl n) s :=
  Ends.done (.inl ((Kept.refl.setR _ _).setT rfl _).advance)

theorem ExecEnds.rotcr (n : Reg) (s : State) : ExecEnds (.rotcr n) s :=
  Ends.done (.inl ((Kept.refl.setR _ _).setT rfl _).advance)

theorem ExecEnds.shad (m : Reg) (n : Reg) (s : State) : ExecEnds (.shad m n) s :=
  Ends.done (.inl (Kept.refl.setR _ _).advance)

theorem ExecEnds.shld (m : Reg) (n : Reg) (s : State) : ExecEnds (.shld m n) s :=
  Ends.done (.inl (Kept.refl.setR _ _).advance)

theorem ExecEnds.div0u (s : State) : ExecEnds .div0u s :=
  Ends.done (.inl (((Kept.refl.setM rfl _).setQ rfl _).setT rfl _).advance)

theorem ExecEnds.div0s (m : Reg) (n : Reg) (s : State) : ExecEnds (.div0s m n) s :=
  Ends.done (.inl (((Kept.refl.setQ rfl _).setM rfl _).setT rfl _).advance)

theorem ExecEnds.div1 (m : Reg) (n : Reg) (s : State) : ExecEnds (.div1 m n) s :=
  Ends.done (.inl (((Kept.refl.setR _ _).setQ rfl _).setT rfl _).advance)

theorem ExecEnds.dmulsL (m : Reg) (n : Reg) (s : State) : ExecEnds (.dmulsL m n) s :=
  Ends.done (.inl (Kept.refl.mac _).advance)

theorem ExecEnds.dmuluL (m : Reg) (n : Reg) (s : State) : ExecEnds (.dmuluL m n) s :=
  Ends.done (.inl (Kept.refl.mac _).advance)

theorem ExecEnds.mulL (m : Reg) (n : Reg) (s : State) : ExecEnds (.mulL m n) s :=
  Ends.done (.inl (Kept.refl.setMacl _).advance)

theorem ExecEnds.mulsW (m : Reg) (n : Reg) (s : State) : ExecEnds (.mulsW m n) s :=
  Ends.done (.inl (Kept.refl.setMacl _).advance)

theorem ExecEnds.muluW (m : Reg) (n : Reg) (s : State) : ExecEnds (.muluW m n) s :=
  Ends.done (.inl (Kept.refl.setMacl _).advance)

theorem ExecEnds.macL (m : Reg) (n : Reg) (s : State) : ExecEnds (.macL m n) s := by
  show Ends s _ (execMacL m n s)
  unfold execMacL
  exact Ends.macOperands fun _ _ => Ends.done (.inl ((Kept.macPointers _ _ _).mac _).advance)

theorem ExecEnds.macW (m : Reg) (n : Reg) (s : State) : ExecEnds (.macW m n) s := by
  show Ends s _ (execMacW m n s)
  unfold execMacW
  exact Ends.macOperands fun _ _ => Ends.done (.inl ((Kept.macPointers _ _ _).mac _).advance)

theorem ExecEnds.clrmac (s : State) : ExecEnds .clrmac s :=
  Ends.done (.inl (Kept.refl.mac _).advance)

theorem ExecEnds.bf (d : BitVec 8) (s : State) : ExecEnds (.bf d) s :=
  Ends.ite (Ends.done (.inl Kept.refl.advance)) (Ends.next (.inl (Kept.refl.pc _)))

theorem ExecEnds.bt (d : BitVec 8) (s : State) : ExecEnds (.bt d) s :=
  Ends.ite (Ends.next (.inl (Kept.refl.pc _))) (Ends.done (.inl Kept.refl.advance))

theorem ExecEnds.bfS (d : BitVec 8) (s : State) : ExecEnds (.bfS d) s :=
  Ends.next (.inr (Delays.of_write rfl rfl _ (.inl rfl)))

theorem ExecEnds.btS (d : BitVec 8) (s : State) : ExecEnds (.btS d) s :=
  Ends.next (.inr (Delays.of_write rfl rfl _ (.inl rfl)))

theorem ExecEnds.bra (d : BitVec 12) (s : State) : ExecEnds (.bra d) s :=
  Ends.next (.inr (Delays.of_write rfl rfl _ (.inl rfl)))

theorem ExecEnds.braf (n : Reg) (s : State) : ExecEnds (.braf n) s :=
  Ends.next (.inr (Delays.of_write rfl rfl _ (.inl rfl)))

theorem ExecEnds.bsr (d : BitVec 12) (s : State) : ExecEnds (.bsr d) s :=
  Ends.next (.inr (Delays.of_write rfl rfl _ (.inl rfl)))

theorem ExecEnds.bsrf (n : Reg) (s : State) : ExecEnds (.bsrf n) s :=
  Ends.next (.inr (Delays.of_write rfl rfl _ (.inl rfl)))

theorem ExecEnds.jmp (n : Reg) (s : State) : ExecEnds (.jmp n) s :=
  Ends.next (.inr (Delays.of_write rfl rfl _ (.inl rfl)))

theorem ExecEnds.jsr (n : Reg) (s : State) : ExecEnds (.jsr n) s :=
  Ends.next (.inr (Delays.of_write rfl rfl _ (.inl rfl)))

theorem ExecEnds.rts (s : State) : ExecEnds .rts s :=
  Ends.next (.inr (Delays.of_write rfl rfl _ (.inl rfl)))

theorem ExecEnds.rte (s : State) : ExecEnds .rte s :=
  Ends.privileged (Ends.next (.inr (Delays.of_write rfl rfl _ (.inr ⟨rfl, rfl⟩))))

theorem ExecEnds.movReg (m : Reg) (n : Reg) (s : State) : ExecEnds (.movReg m n) s :=
  Ends.done (.inl (Kept.refl.setR _ _).advance)

theorem ExecEnds.movImm (i : BitVec 8) (n : Reg) (s : State) : ExecEnds (.movImm i n) s :=
  Ends.done (.inl (Kept.refl.setR _ _).advance)

theorem ExecEnds.movWPc (d : BitVec 8) (n : Reg) (s : State) : ExecEnds (.movWPc d n) s := by
  show Ends s _ (execMovWPc d n s)
  unfold execMovWPc
  exact Ends.loadTo fun _ => .inl (Kept.refl.setR _ _).advance

theorem ExecEnds.movLPc (d : BitVec 8) (n : Reg) (s : State) : ExecEnds (.movLPc d n) s := by
  show Ends s _ (execMovLPc d n s)
  unfold execMovLPc
  exact Ends.loadTo fun _ => .inl (Kept.refl.setR _ _).advance

theorem ExecEnds.movBStore (m : Reg) (n : Reg) (s : State) : ExecEnds (.movBStore m n) s := by
  show Ends s _ (execMovBStore m n s)
  unfold execMovBStore
  exact Ends.storeTo (.inl (Kept.refl.memWrite rfl _ _ _).advance)

theorem ExecEnds.movWStore (m : Reg) (n : Reg) (s : State) : ExecEnds (.movWStore m n) s := by
  show Ends s _ (execMovWStore m n s)
  unfold execMovWStore
  exact Ends.storeTo (.inl (Kept.refl.memWrite rfl _ _ _).advance)

theorem ExecEnds.movLStore (m : Reg) (n : Reg) (s : State) : ExecEnds (.movLStore m n) s := by
  show Ends s _ (execMovLStore m n s)
  unfold execMovLStore
  exact Ends.storeTo (.inl (Kept.refl.memWrite rfl _ _ _).advance)

theorem ExecEnds.movBLoad (m : Reg) (n : Reg) (s : State) : ExecEnds (.movBLoad m n) s := by
  show Ends s _ (execMovBLoad m n s)
  unfold execMovBLoad
  exact Ends.loadTo fun _ => .inl (Kept.refl.setR _ _).advance

theorem ExecEnds.movWLoad (m : Reg) (n : Reg) (s : State) : ExecEnds (.movWLoad m n) s := by
  show Ends s _ (execMovWLoad m n s)
  unfold execMovWLoad
  exact Ends.loadTo fun _ => .inl (Kept.refl.setR _ _).advance

theorem ExecEnds.movLLoad (m : Reg) (n : Reg) (s : State) : ExecEnds (.movLLoad m n) s := by
  show Ends s _ (execMovLLoad m n s)
  unfold execMovLLoad
  exact Ends.loadTo fun _ => .inl (Kept.refl.setR _ _).advance

theorem ExecEnds.movBStorePre (m : Reg) (n : Reg) (s : State) : ExecEnds (.movBStorePre m n) s := by
  show Ends s _ (execMovBStorePre m n s)
  unfold execMovBStorePre
  exact Ends.storePre (.inl ((Kept.refl.memWrite rfl _ _ _).setR _ _).advance)

theorem ExecEnds.movWStorePre (m : Reg) (n : Reg) (s : State) : ExecEnds (.movWStorePre m n) s := by
  show Ends s _ (execMovWStorePre m n s)
  unfold execMovWStorePre
  exact Ends.storePre (.inl ((Kept.refl.memWrite rfl _ _ _).setR _ _).advance)

theorem ExecEnds.movLStorePre (m : Reg) (n : Reg) (s : State) : ExecEnds (.movLStorePre m n) s := by
  show Ends s _ (execMovLStorePre m n s)
  unfold execMovLStorePre
  exact Ends.storePre (.inl ((Kept.refl.memWrite rfl _ _ _).setR _ _).advance)

theorem ExecEnds.movBLoadPost (m : Reg) (n : Reg) (s : State) : ExecEnds (.movBLoadPost m n) s := by
  show Ends s _ (execMovBLoadPost m n s)
  unfold execMovBLoadPost
  exact Ends.loadPost fun _ => .inl ((Kept.iteSetR _ _).setR _ _).advance

theorem ExecEnds.movWLoadPost (m : Reg) (n : Reg) (s : State) : ExecEnds (.movWLoadPost m n) s := by
  show Ends s _ (execMovWLoadPost m n s)
  unfold execMovWLoadPost
  exact Ends.loadPost fun _ => .inl ((Kept.iteSetR _ _).setR _ _).advance

theorem ExecEnds.movLLoadPost (m : Reg) (n : Reg) (s : State) : ExecEnds (.movLLoadPost m n) s := by
  show Ends s _ (execMovLLoadPost m n s)
  unfold execMovLLoadPost
  exact Ends.loadPost fun _ => .inl ((Kept.iteSetR _ _).setR _ _).advance

theorem ExecEnds.movBStoreDisp (d : BitVec 4) (n : Reg) (s : State) : ExecEnds (.movBStoreDisp d n) s := by
  show Ends s _ (execMovBStoreDisp d n s)
  unfold execMovBStoreDisp
  exact Ends.storeTo (.inl (Kept.refl.memWrite rfl _ _ _).advance)

theorem ExecEnds.movWStoreDisp (d : BitVec 4) (n : Reg) (s : State) : ExecEnds (.movWStoreDisp d n) s := by
  show Ends s _ (execMovWStoreDisp d n s)
  unfold execMovWStoreDisp
  exact Ends.storeTo (.inl (Kept.refl.memWrite rfl _ _ _).advance)

theorem ExecEnds.movLStoreDisp (m : Reg) (d : BitVec 4) (n : Reg) (s : State) : ExecEnds (.movLStoreDisp m d n) s := by
  show Ends s _ (execMovLStoreDisp m d n s)
  unfold execMovLStoreDisp
  exact Ends.storeTo (.inl (Kept.refl.memWrite rfl _ _ _).advance)

theorem ExecEnds.movBLoadDisp (d : BitVec 4) (m : Reg) (s : State) : ExecEnds (.movBLoadDisp d m) s := by
  show Ends s _ (execMovBLoadDisp d m s)
  unfold execMovBLoadDisp
  exact Ends.loadTo fun _ => .inl (Kept.refl.setR _ _).advance

theorem ExecEnds.movWLoadDisp (d : BitVec 4) (m : Reg) (s : State) : ExecEnds (.movWLoadDisp d m) s := by
  show Ends s _ (execMovWLoadDisp d m s)
  unfold execMovWLoadDisp
  exact Ends.loadTo fun _ => .inl (Kept.refl.setR _ _).advance

theorem ExecEnds.movLLoadDisp (d : BitVec 4) (m : Reg) (n : Reg) (s : State) : ExecEnds (.movLLoadDisp d m n) s := by
  show Ends s _ (execMovLLoadDisp d m n s)
  unfold execMovLLoadDisp
  exact Ends.loadTo fun _ => .inl (Kept.refl.setR _ _).advance

theorem ExecEnds.movBStoreIdx (m : Reg) (n : Reg) (s : State) : ExecEnds (.movBStoreIdx m n) s := by
  show Ends s _ (execMovBStoreIdx m n s)
  unfold execMovBStoreIdx
  exact Ends.storeTo (.inl (Kept.refl.memWrite rfl _ _ _).advance)

theorem ExecEnds.movWStoreIdx (m : Reg) (n : Reg) (s : State) : ExecEnds (.movWStoreIdx m n) s := by
  show Ends s _ (execMovWStoreIdx m n s)
  unfold execMovWStoreIdx
  exact Ends.storeTo (.inl (Kept.refl.memWrite rfl _ _ _).advance)

theorem ExecEnds.movLStoreIdx (m : Reg) (n : Reg) (s : State) : ExecEnds (.movLStoreIdx m n) s := by
  show Ends s _ (execMovLStoreIdx m n s)
  unfold execMovLStoreIdx
  exact Ends.storeTo (.inl (Kept.refl.memWrite rfl _ _ _).advance)

theorem ExecEnds.movBLoadIdx (m : Reg) (n : Reg) (s : State) : ExecEnds (.movBLoadIdx m n) s := by
  show Ends s _ (execMovBLoadIdx m n s)
  unfold execMovBLoadIdx
  exact Ends.loadTo fun _ => .inl (Kept.refl.setR _ _).advance

theorem ExecEnds.movWLoadIdx (m : Reg) (n : Reg) (s : State) : ExecEnds (.movWLoadIdx m n) s := by
  show Ends s _ (execMovWLoadIdx m n s)
  unfold execMovWLoadIdx
  exact Ends.loadTo fun _ => .inl (Kept.refl.setR _ _).advance

theorem ExecEnds.movLLoadIdx (m : Reg) (n : Reg) (s : State) : ExecEnds (.movLLoadIdx m n) s := by
  show Ends s _ (execMovLLoadIdx m n s)
  unfold execMovLLoadIdx
  exact Ends.loadTo fun _ => .inl (Kept.refl.setR _ _).advance

theorem ExecEnds.movBStoreGbr (d : BitVec 8) (s : State) : ExecEnds (.movBStoreGbr d) s := by
  show Ends s _ (execMovBStoreGbr d s)
  unfold execMovBStoreGbr
  exact Ends.storeTo (.inl (Kept.refl.memWrite rfl _ _ _).advance)

theorem ExecEnds.movWStoreGbr (d : BitVec 8) (s : State) : ExecEnds (.movWStoreGbr d) s := by
  show Ends s _ (execMovWStoreGbr d s)
  unfold execMovWStoreGbr
  exact Ends.storeTo (.inl (Kept.refl.memWrite rfl _ _ _).advance)

theorem ExecEnds.movLStoreGbr (d : BitVec 8) (s : State) : ExecEnds (.movLStoreGbr d) s := by
  show Ends s _ (execMovLStoreGbr d s)
  unfold execMovLStoreGbr
  exact Ends.storeTo (.inl (Kept.refl.memWrite rfl _ _ _).advance)

theorem ExecEnds.movBLoadGbr (d : BitVec 8) (s : State) : ExecEnds (.movBLoadGbr d) s := by
  show Ends s _ (execMovBLoadGbr d s)
  unfold execMovBLoadGbr
  exact Ends.loadTo fun _ => .inl (Kept.refl.setR _ _).advance

theorem ExecEnds.movWLoadGbr (d : BitVec 8) (s : State) : ExecEnds (.movWLoadGbr d) s := by
  show Ends s _ (execMovWLoadGbr d s)
  unfold execMovWLoadGbr
  exact Ends.loadTo fun _ => .inl (Kept.refl.setR _ _).advance

theorem ExecEnds.movLLoadGbr (d : BitVec 8) (s : State) : ExecEnds (.movLLoadGbr d) s := by
  show Ends s _ (execMovLLoadGbr d s)
  unfold execMovLLoadGbr
  exact Ends.loadTo fun _ => .inl (Kept.refl.setR _ _).advance

theorem ExecEnds.mova (d : BitVec 8) (s : State) : ExecEnds (.mova d) s :=
  Ends.done (.inl (Kept.refl.setR _ _).advance)

theorem ExecEnds.movt (n : Reg) (s : State) : ExecEnds (.movt n) s :=
  Ends.done (.inl (Kept.refl.setR _ _).advance)

theorem ExecEnds.swapB (m : Reg) (n : Reg) (s : State) : ExecEnds (.swapB m n) s :=
  Ends.done (.inl (Kept.refl.setR _ _).advance)

theorem ExecEnds.swapW (m : Reg) (n : Reg) (s : State) : ExecEnds (.swapW m n) s :=
  Ends.done (.inl (Kept.refl.setR _ _).advance)

theorem ExecEnds.xtrct (m : Reg) (n : Reg) (s : State) : ExecEnds (.xtrct m n) s :=
  Ends.done (.inl (Kept.refl.setR _ _).advance)

theorem ExecEnds.movcaL (n : Reg) (s : State) : ExecEnds (.movcaL n) s := by
  show Ends s _ (execMovcaL n s)
  unfold execMovcaL
  exact Ends.storeTo (.inl (Kept.refl.memWrite rfl _ _ _).advance)

theorem ExecEnds.movliL (m : Reg) (s : State) : ExecEnds (.movliL m) s := by
  show Ends s _ (execMovliL m s)
  unfold execMovliL
  exact Ends.load fun _ => Ends.done (.inl ((Kept.refl.setR _ _).ldst _).advance)

theorem ExecEnds.movcoL (n : Reg) (s : State) : ExecEnds (.movcoL n) s := by
  show Ends s _ (execMovcoL n s)
  unfold execMovcoL
  exact Ends.ite (Ends.store (Ends.done (.inl (((Kept.refl.memWrite rfl _ _ _).setT rfl _).ldst _).advance))) (Ends.done (.inl ((Kept.refl.setT rfl _).ldst _).advance))

theorem ExecEnds.movuaL (m : Reg) (s : State) : ExecEnds (.movuaL m) s := by
  show Ends s _ (execMovuaL m s)
  unfold execMovuaL
  exact Ends.readUnaligned fun _ => Ends.done (.inl (Kept.refl.setR _ _).advance)

theorem ExecEnds.movuaLPost (m : Reg) (s : State) : ExecEnds (.movuaLPost m) s := by
  show Ends s _ (execMovuaLPost m s)
  unfold execMovuaLPost
  exact Ends.readUnaligned fun _ => Ends.done (.inl ((Kept.iteSetR _ _).setR _ _).advance)

theorem ExecEnds.ldcSr (m : Reg) (s : State) : ExecEnds (.ldcSr m) s :=
  Ends.privileged (Ends.done (.inl (Kept.refl.setSr rfl rfl _).advance))

theorem ExecEnds.ldcGbr (m : Reg) (s : State) : ExecEnds (.ldcGbr m) s :=
  Ends.done (.inl (Kept.refl.gbr _).advance)

theorem ExecEnds.ldcVbr (m : Reg) (s : State) : ExecEnds (.ldcVbr m) s :=
  Ends.privileged (Ends.done (.inl (Kept.refl.vbr rfl _).advance))

theorem ExecEnds.ldcSgr (m : Reg) (s : State) : ExecEnds (.ldcSgr m) s :=
  Ends.privileged (Ends.done (.inl (Kept.refl.sgr rfl _).advance))

theorem ExecEnds.ldcSsr (m : Reg) (s : State) : ExecEnds (.ldcSsr m) s :=
  Ends.privileged (Ends.done (.inl (Kept.refl.ssr rfl _).advance))

theorem ExecEnds.ldcSpc (m : Reg) (s : State) : ExecEnds (.ldcSpc m) s :=
  Ends.privileged (Ends.done (.inl (Kept.refl.spc rfl _).advance))

theorem ExecEnds.ldcDbr (m : Reg) (s : State) : ExecEnds (.ldcDbr m) s :=
  Ends.privileged (Ends.done (.inl (Kept.refl.dbr rfl _).advance))

theorem ExecEnds.ldcBank (m : Reg) (b : BankReg) (s : State) : ExecEnds (.ldcBank m b) s :=
  Ends.privileged (Ends.done (.inl (Kept.refl.setRBank rfl _ _).advance))

theorem ExecEnds.ldcLSr (m : Reg) (s : State) : ExecEnds (.ldcLSr m) s := by
  show Ends s _ (execLdcLSr m s)
  unfold execLdcLSr
  exact Ends.privileged (Ends.pop fun _ => Ends.done (.inl ((Kept.refl.setR _ _).setSr rfl rfl _).advance))

theorem ExecEnds.ldcLGbr (m : Reg) (s : State) : ExecEnds (.ldcLGbr m) s := by
  show Ends s _ (execLdcLGbr m s)
  unfold execLdcLGbr
  exact Ends.pop fun _ => Ends.done (.inl ((Kept.refl.setR _ _).gbr _).advance)

theorem ExecEnds.ldcLVbr (m : Reg) (s : State) : ExecEnds (.ldcLVbr m) s := by
  show Ends s _ (execLdcLVbr m s)
  unfold execLdcLVbr
  exact Ends.privileged (Ends.pop fun _ => Ends.done (.inl ((Kept.refl.setR _ _).vbr rfl _).advance))

theorem ExecEnds.ldcLSgr (m : Reg) (s : State) : ExecEnds (.ldcLSgr m) s := by
  show Ends s _ (execLdcLSgr m s)
  unfold execLdcLSgr
  exact Ends.privileged (Ends.pop fun _ => Ends.done (.inl ((Kept.refl.setR _ _).sgr rfl _).advance))

theorem ExecEnds.ldcLSsr (m : Reg) (s : State) : ExecEnds (.ldcLSsr m) s := by
  show Ends s _ (execLdcLSsr m s)
  unfold execLdcLSsr
  exact Ends.privileged (Ends.pop fun _ => Ends.done (.inl ((Kept.refl.setR _ _).ssr rfl _).advance))

theorem ExecEnds.ldcLSpc (m : Reg) (s : State) : ExecEnds (.ldcLSpc m) s := by
  show Ends s _ (execLdcLSpc m s)
  unfold execLdcLSpc
  exact Ends.privileged (Ends.pop fun _ => Ends.done (.inl ((Kept.refl.setR _ _).spc rfl _).advance))

theorem ExecEnds.ldcLDbr (m : Reg) (s : State) : ExecEnds (.ldcLDbr m) s := by
  show Ends s _ (execLdcLDbr m s)
  unfold execLdcLDbr
  exact Ends.privileged (Ends.pop fun _ => Ends.done (.inl ((Kept.refl.setR _ _).dbr rfl _).advance))

theorem ExecEnds.ldcLBank (m : Reg) (b : BankReg) (s : State) : ExecEnds (.ldcLBank m b) s := by
  show Ends s _ (execLdcLBank m b s)
  unfold execLdcLBank
  exact Ends.privileged (Ends.pop fun _ => Ends.done (.inl ((Kept.refl.setR _ _).setRBank rfl _ _).advance))

theorem ExecEnds.ldsMach (m : Reg) (s : State) : ExecEnds (.ldsMach m) s :=
  Ends.done (.inl (Kept.refl.setMach _).advance)

theorem ExecEnds.ldsMacl (m : Reg) (s : State) : ExecEnds (.ldsMacl m) s :=
  Ends.done (.inl (Kept.refl.setMacl _).advance)

theorem ExecEnds.ldsPr (m : Reg) (s : State) : ExecEnds (.ldsPr m) s :=
  Ends.done (.inl (Kept.refl.pr _).advance)

theorem ExecEnds.ldsLMach (m : Reg) (s : State) : ExecEnds (.ldsLMach m) s := by
  show Ends s _ (execLdsLMach m s)
  unfold execLdsLMach
  exact Ends.pop fun _ => Ends.done (.inl ((Kept.refl.setR _ _).setMach _).advance)

theorem ExecEnds.ldsLMacl (m : Reg) (s : State) : ExecEnds (.ldsLMacl m) s := by
  show Ends s _ (execLdsLMacl m s)
  unfold execLdsLMacl
  exact Ends.pop fun _ => Ends.done (.inl ((Kept.refl.setR _ _).setMacl _).advance)

theorem ExecEnds.ldsLPr (m : Reg) (s : State) : ExecEnds (.ldsLPr m) s := by
  show Ends s _ (execLdsLPr m s)
  unfold execLdsLPr
  exact Ends.pop fun _ => Ends.done (.inl ((Kept.refl.setR _ _).pr _).advance)

theorem ExecEnds.stcSr (n : Reg) (s : State) : ExecEnds (.stcSr n) s :=
  Ends.privileged (Ends.done (.inl (Kept.refl.setR _ _).advance))

theorem ExecEnds.stcGbr (n : Reg) (s : State) : ExecEnds (.stcGbr n) s :=
  Ends.done (.inl (Kept.refl.setR _ _).advance)

theorem ExecEnds.stcVbr (n : Reg) (s : State) : ExecEnds (.stcVbr n) s :=
  Ends.privileged (Ends.done (.inl (Kept.refl.setR _ _).advance))

theorem ExecEnds.stcSgr (n : Reg) (s : State) : ExecEnds (.stcSgr n) s :=
  Ends.privileged (Ends.done (.inl (Kept.refl.setR _ _).advance))

theorem ExecEnds.stcSsr (n : Reg) (s : State) : ExecEnds (.stcSsr n) s :=
  Ends.privileged (Ends.done (.inl (Kept.refl.setR _ _).advance))

theorem ExecEnds.stcSpc (n : Reg) (s : State) : ExecEnds (.stcSpc n) s :=
  Ends.privileged (Ends.done (.inl (Kept.refl.setR _ _).advance))

theorem ExecEnds.stcDbr (n : Reg) (s : State) : ExecEnds (.stcDbr n) s :=
  Ends.privileged (Ends.done (.inl (Kept.refl.setR _ _).advance))

theorem ExecEnds.stcBank (b : BankReg) (n : Reg) (s : State) : ExecEnds (.stcBank b n) s :=
  Ends.privileged (Ends.done (.inl (Kept.refl.setR _ _).advance))

theorem ExecEnds.stcLSr (n : Reg) (s : State) : ExecEnds (.stcLSr n) s := by
  show Ends s _ (execStcLSr n s)
  unfold execStcLSr
  exact Ends.privileged (Ends.storePre (.inl ((Kept.refl.memWrite rfl _ _ _).setR _ _).advance))

theorem ExecEnds.stcLGbr (n : Reg) (s : State) : ExecEnds (.stcLGbr n) s := by
  show Ends s _ (execStcLGbr n s)
  unfold execStcLGbr
  exact Ends.storePre (.inl ((Kept.refl.memWrite rfl _ _ _).setR _ _).advance)

theorem ExecEnds.stcLVbr (n : Reg) (s : State) : ExecEnds (.stcLVbr n) s := by
  show Ends s _ (execStcLVbr n s)
  unfold execStcLVbr
  exact Ends.privileged (Ends.storePre (.inl ((Kept.refl.memWrite rfl _ _ _).setR _ _).advance))

theorem ExecEnds.stcLSgr (n : Reg) (s : State) : ExecEnds (.stcLSgr n) s := by
  show Ends s _ (execStcLSgr n s)
  unfold execStcLSgr
  exact Ends.privileged (Ends.storePre (.inl ((Kept.refl.memWrite rfl _ _ _).setR _ _).advance))

theorem ExecEnds.stcLSsr (n : Reg) (s : State) : ExecEnds (.stcLSsr n) s := by
  show Ends s _ (execStcLSsr n s)
  unfold execStcLSsr
  exact Ends.privileged (Ends.storePre (.inl ((Kept.refl.memWrite rfl _ _ _).setR _ _).advance))

theorem ExecEnds.stcLSpc (n : Reg) (s : State) : ExecEnds (.stcLSpc n) s := by
  show Ends s _ (execStcLSpc n s)
  unfold execStcLSpc
  exact Ends.privileged (Ends.storePre (.inl ((Kept.refl.memWrite rfl _ _ _).setR _ _).advance))

theorem ExecEnds.stcLDbr (n : Reg) (s : State) : ExecEnds (.stcLDbr n) s := by
  show Ends s _ (execStcLDbr n s)
  unfold execStcLDbr
  exact Ends.privileged (Ends.storePre (.inl ((Kept.refl.memWrite rfl _ _ _).setR _ _).advance))

theorem ExecEnds.stcLBank (b : BankReg) (n : Reg) (s : State) : ExecEnds (.stcLBank b n) s := by
  show Ends s _ (execStcLBank b n s)
  unfold execStcLBank
  exact Ends.privileged (Ends.storePre (.inl ((Kept.refl.memWrite rfl _ _ _).setR _ _).advance))

theorem ExecEnds.stsMach (n : Reg) (s : State) : ExecEnds (.stsMach n) s :=
  Ends.done (.inl (Kept.refl.setR _ _).advance)

theorem ExecEnds.stsMacl (n : Reg) (s : State) : ExecEnds (.stsMacl n) s :=
  Ends.done (.inl (Kept.refl.setR _ _).advance)

theorem ExecEnds.stsPr (n : Reg) (s : State) : ExecEnds (.stsPr n) s :=
  Ends.done (.inl (Kept.refl.setR _ _).advance)

theorem ExecEnds.stsLMach (n : Reg) (s : State) : ExecEnds (.stsLMach n) s := by
  show Ends s _ (execStsLMach n s)
  unfold execStsLMach
  exact Ends.storePre (.inl ((Kept.refl.memWrite rfl _ _ _).setR _ _).advance)

theorem ExecEnds.stsLMacl (n : Reg) (s : State) : ExecEnds (.stsLMacl n) s := by
  show Ends s _ (execStsLMacl n s)
  unfold execStsLMacl
  exact Ends.storePre (.inl ((Kept.refl.memWrite rfl _ _ _).setR _ _).advance)

theorem ExecEnds.stsLPr (n : Reg) (s : State) : ExecEnds (.stsLPr n) s := by
  show Ends s _ (execStsLPr n s)
  unfold execStsLPr
  exact Ends.storePre (.inl ((Kept.refl.memWrite rfl _ _ _).setR _ _).advance)

theorem ExecEnds.clrt (s : State) : ExecEnds .clrt s :=
  Ends.done (.inl (Kept.refl.setT rfl _).advance)

theorem ExecEnds.sett (s : State) : ExecEnds .sett s :=
  Ends.done (.inl (Kept.refl.setT rfl _).advance)

theorem ExecEnds.clrs (s : State) : ExecEnds .clrs s :=
  Ends.done (.inl (Kept.refl.setS rfl _).advance)

theorem ExecEnds.sets (s : State) : ExecEnds .sets s :=
  Ends.done (.inl (Kept.refl.setS rfl _).advance)

theorem ExecEnds.icbi (n : Reg) (s : State) : ExecEnds (.icbi n) s :=
  Ends.done (.inl Kept.refl.advance)

theorem ExecEnds.pref (n : Reg) (s : State) : ExecEnds (.pref n) s :=
  Ends.done (.inl Kept.refl.advance)

theorem ExecEnds.prefi (n : Reg) (s : State) : ExecEnds (.prefi n) s :=
  Ends.done (.inl Kept.refl.advance)

theorem ExecEnds.ocbi (n : Reg) (s : State) : ExecEnds (.ocbi n) s := by
  show Ends s _ (execOcbi n s)
  unfold execOcbi
  have hw : Memory.wf s.mem = true → Memory.wf (havocBytes s.params s.draws (lineBase (s.r n)) 32 s.mem) = true :=
    havocBytes_wf _ _ _ _
  generalize havocBytes s.params s.draws (lineBase (s.r n)) 32 s.mem = m at hw ⊢
  split
  · exact Ends.done (.inl Kept.refl.advance)
  · exact Ends.answered (Ends.done (.inl ((Kept.refl.memory rfl hw).draws _).advance))

theorem ExecEnds.ocbp (n : Reg) (s : State) : ExecEnds (.ocbp n) s :=
  Ends.done (.inl Kept.refl.advance)

theorem ExecEnds.ocbwb (n : Reg) (s : State) : ExecEnds (.ocbwb n) s :=
  Ends.done (.inl Kept.refl.advance)

theorem ExecEnds.ldtlb (s : State) : ExecEnds .ldtlb s :=
  Ends.privileged (Ends.done (.inl Kept.refl.advance))

theorem ExecEnds.nop (s : State) : ExecEnds .nop s :=
  Ends.done (.inl Kept.refl.advance)

theorem ExecEnds.trapa (i : BitVec 8) (s : State) : ExecEnds (.trapa i) s :=
  Ends.exception _

theorem ExecEnds.synco (s : State) : ExecEnds .synco s :=
  Ends.done (.inl Kept.refl.advance)

theorem ExecEnds.sleep (s : State) : ExecEnds .sleep s :=
  Ends.privileged (Ends.done (.inl (Kept.refl.sleeping _).advance))

theorem ExecEnds.fpuGroup (op : BitVec 12) (s : State) : ExecEnds (.fpuGroup op) s :=
  Ends.refused _

theorem ExecEnds.ldsFpul (m : Reg) (s : State) : ExecEnds (.ldsFpul m) s :=
  Ends.refused _

theorem ExecEnds.ldsFpscr (m : Reg) (s : State) : ExecEnds (.ldsFpscr m) s :=
  Ends.refused _

theorem ExecEnds.ldsLFpul (m : Reg) (s : State) : ExecEnds (.ldsLFpul m) s :=
  Ends.refused _

theorem ExecEnds.ldsLFpscr (m : Reg) (s : State) : ExecEnds (.ldsLFpscr m) s :=
  Ends.refused _

theorem ExecEnds.stsFpul (n : Reg) (s : State) : ExecEnds (.stsFpul n) s :=
  Ends.refused _

theorem ExecEnds.stsFpscr (n : Reg) (s : State) : ExecEnds (.stsFpscr n) s :=
  Ends.refused _

theorem ExecEnds.stsLFpul (n : Reg) (s : State) : ExecEnds (.stsLFpul n) s :=
  Ends.refused _

theorem ExecEnds.stsLFpscr (n : Reg) (s : State) : ExecEnds (.stsLFpscr n) s :=
  Ends.refused _

/-- Everything executing an instruction can do. -/
theorem exec_ends (i : Instr) (s : State) : ExecEnds i s := by
  cases i with
  | add _ _ => exact ExecEnds.add _ _ s
  | addImm _ _ => exact ExecEnds.addImm _ _ s
  | addc _ _ => exact ExecEnds.addc _ _ s
  | addv _ _ => exact ExecEnds.addv _ _ s
  | sub _ _ => exact ExecEnds.sub _ _ s
  | subc _ _ => exact ExecEnds.subc _ _ s
  | subv _ _ => exact ExecEnds.subv _ _ s
  | neg _ _ => exact ExecEnds.neg _ _ s
  | negc _ _ => exact ExecEnds.negc _ _ s
  | dt _ => exact ExecEnds.dt _ s
  | extsB _ _ => exact ExecEnds.extsB _ _ s
  | extsW _ _ => exact ExecEnds.extsW _ _ s
  | extuB _ _ => exact ExecEnds.extuB _ _ s
  | extuW _ _ => exact ExecEnds.extuW _ _ s
  | cmpEq _ _ => exact ExecEnds.cmpEq _ _ s
  | cmpEqImm _ => exact ExecEnds.cmpEqImm _ s
  | cmpHs _ _ => exact ExecEnds.cmpHs _ _ s
  | cmpGe _ _ => exact ExecEnds.cmpGe _ _ s
  | cmpHi _ _ => exact ExecEnds.cmpHi _ _ s
  | cmpGt _ _ => exact ExecEnds.cmpGt _ _ s
  | cmpPz _ => exact ExecEnds.cmpPz _ s
  | cmpPl _ => exact ExecEnds.cmpPl _ s
  | cmpStr _ _ => exact ExecEnds.cmpStr _ _ s
  | andReg _ _ => exact ExecEnds.andReg _ _ s
  | andImm _ => exact ExecEnds.andImm _ s
  | andB _ => exact ExecEnds.andB _ s
  | orReg _ _ => exact ExecEnds.orReg _ _ s
  | orImm _ => exact ExecEnds.orImm _ s
  | orB _ => exact ExecEnds.orB _ s
  | xorReg _ _ => exact ExecEnds.xorReg _ _ s
  | xorImm _ => exact ExecEnds.xorImm _ s
  | xorB _ => exact ExecEnds.xorB _ s
  | notReg _ _ => exact ExecEnds.notReg _ _ s
  | tst _ _ => exact ExecEnds.tst _ _ s
  | tstImm _ => exact ExecEnds.tstImm _ s
  | tasB _ => exact ExecEnds.tasB _ s
  | tstB _ => exact ExecEnds.tstB _ s
  | shll _ => exact ExecEnds.shll _ s
  | shlr _ => exact ExecEnds.shlr _ s
  | shal _ => exact ExecEnds.shal _ s
  | shar _ => exact ExecEnds.shar _ s
  | shll2 _ => exact ExecEnds.shll2 _ s
  | shlr2 _ => exact ExecEnds.shlr2 _ s
  | shll8 _ => exact ExecEnds.shll8 _ s
  | shlr8 _ => exact ExecEnds.shlr8 _ s
  | shll16 _ => exact ExecEnds.shll16 _ s
  | shlr16 _ => exact ExecEnds.shlr16 _ s
  | rotl _ => exact ExecEnds.rotl _ s
  | rotr _ => exact ExecEnds.rotr _ s
  | rotcl _ => exact ExecEnds.rotcl _ s
  | rotcr _ => exact ExecEnds.rotcr _ s
  | shad _ _ => exact ExecEnds.shad _ _ s
  | shld _ _ => exact ExecEnds.shld _ _ s
  | div0u => exact ExecEnds.div0u s
  | div0s _ _ => exact ExecEnds.div0s _ _ s
  | div1 _ _ => exact ExecEnds.div1 _ _ s
  | dmulsL _ _ => exact ExecEnds.dmulsL _ _ s
  | dmuluL _ _ => exact ExecEnds.dmuluL _ _ s
  | mulL _ _ => exact ExecEnds.mulL _ _ s
  | mulsW _ _ => exact ExecEnds.mulsW _ _ s
  | muluW _ _ => exact ExecEnds.muluW _ _ s
  | macL _ _ => exact ExecEnds.macL _ _ s
  | macW _ _ => exact ExecEnds.macW _ _ s
  | clrmac => exact ExecEnds.clrmac s
  | bf _ => exact ExecEnds.bf _ s
  | bt _ => exact ExecEnds.bt _ s
  | bfS _ => exact ExecEnds.bfS _ s
  | btS _ => exact ExecEnds.btS _ s
  | bra _ => exact ExecEnds.bra _ s
  | braf _ => exact ExecEnds.braf _ s
  | bsr _ => exact ExecEnds.bsr _ s
  | bsrf _ => exact ExecEnds.bsrf _ s
  | jmp _ => exact ExecEnds.jmp _ s
  | jsr _ => exact ExecEnds.jsr _ s
  | rts => exact ExecEnds.rts s
  | rte => exact ExecEnds.rte s
  | movReg _ _ => exact ExecEnds.movReg _ _ s
  | movImm _ _ => exact ExecEnds.movImm _ _ s
  | movWPc _ _ => exact ExecEnds.movWPc _ _ s
  | movLPc _ _ => exact ExecEnds.movLPc _ _ s
  | movBStore _ _ => exact ExecEnds.movBStore _ _ s
  | movWStore _ _ => exact ExecEnds.movWStore _ _ s
  | movLStore _ _ => exact ExecEnds.movLStore _ _ s
  | movBLoad _ _ => exact ExecEnds.movBLoad _ _ s
  | movWLoad _ _ => exact ExecEnds.movWLoad _ _ s
  | movLLoad _ _ => exact ExecEnds.movLLoad _ _ s
  | movBStorePre _ _ => exact ExecEnds.movBStorePre _ _ s
  | movWStorePre _ _ => exact ExecEnds.movWStorePre _ _ s
  | movLStorePre _ _ => exact ExecEnds.movLStorePre _ _ s
  | movBLoadPost _ _ => exact ExecEnds.movBLoadPost _ _ s
  | movWLoadPost _ _ => exact ExecEnds.movWLoadPost _ _ s
  | movLLoadPost _ _ => exact ExecEnds.movLLoadPost _ _ s
  | movBStoreDisp _ _ => exact ExecEnds.movBStoreDisp _ _ s
  | movWStoreDisp _ _ => exact ExecEnds.movWStoreDisp _ _ s
  | movLStoreDisp _ _ _ => exact ExecEnds.movLStoreDisp _ _ _ s
  | movBLoadDisp _ _ => exact ExecEnds.movBLoadDisp _ _ s
  | movWLoadDisp _ _ => exact ExecEnds.movWLoadDisp _ _ s
  | movLLoadDisp _ _ _ => exact ExecEnds.movLLoadDisp _ _ _ s
  | movBStoreIdx _ _ => exact ExecEnds.movBStoreIdx _ _ s
  | movWStoreIdx _ _ => exact ExecEnds.movWStoreIdx _ _ s
  | movLStoreIdx _ _ => exact ExecEnds.movLStoreIdx _ _ s
  | movBLoadIdx _ _ => exact ExecEnds.movBLoadIdx _ _ s
  | movWLoadIdx _ _ => exact ExecEnds.movWLoadIdx _ _ s
  | movLLoadIdx _ _ => exact ExecEnds.movLLoadIdx _ _ s
  | movBStoreGbr _ => exact ExecEnds.movBStoreGbr _ s
  | movWStoreGbr _ => exact ExecEnds.movWStoreGbr _ s
  | movLStoreGbr _ => exact ExecEnds.movLStoreGbr _ s
  | movBLoadGbr _ => exact ExecEnds.movBLoadGbr _ s
  | movWLoadGbr _ => exact ExecEnds.movWLoadGbr _ s
  | movLLoadGbr _ => exact ExecEnds.movLLoadGbr _ s
  | mova _ => exact ExecEnds.mova _ s
  | movt _ => exact ExecEnds.movt _ s
  | swapB _ _ => exact ExecEnds.swapB _ _ s
  | swapW _ _ => exact ExecEnds.swapW _ _ s
  | xtrct _ _ => exact ExecEnds.xtrct _ _ s
  | movcaL _ => exact ExecEnds.movcaL _ s
  | movliL _ => exact ExecEnds.movliL _ s
  | movcoL _ => exact ExecEnds.movcoL _ s
  | movuaL _ => exact ExecEnds.movuaL _ s
  | movuaLPost _ => exact ExecEnds.movuaLPost _ s
  | ldcSr _ => exact ExecEnds.ldcSr _ s
  | ldcGbr _ => exact ExecEnds.ldcGbr _ s
  | ldcVbr _ => exact ExecEnds.ldcVbr _ s
  | ldcSgr _ => exact ExecEnds.ldcSgr _ s
  | ldcSsr _ => exact ExecEnds.ldcSsr _ s
  | ldcSpc _ => exact ExecEnds.ldcSpc _ s
  | ldcDbr _ => exact ExecEnds.ldcDbr _ s
  | ldcBank _ _ => exact ExecEnds.ldcBank _ _ s
  | ldcLSr _ => exact ExecEnds.ldcLSr _ s
  | ldcLGbr _ => exact ExecEnds.ldcLGbr _ s
  | ldcLVbr _ => exact ExecEnds.ldcLVbr _ s
  | ldcLSgr _ => exact ExecEnds.ldcLSgr _ s
  | ldcLSsr _ => exact ExecEnds.ldcLSsr _ s
  | ldcLSpc _ => exact ExecEnds.ldcLSpc _ s
  | ldcLDbr _ => exact ExecEnds.ldcLDbr _ s
  | ldcLBank _ _ => exact ExecEnds.ldcLBank _ _ s
  | ldsMach _ => exact ExecEnds.ldsMach _ s
  | ldsMacl _ => exact ExecEnds.ldsMacl _ s
  | ldsPr _ => exact ExecEnds.ldsPr _ s
  | ldsLMach _ => exact ExecEnds.ldsLMach _ s
  | ldsLMacl _ => exact ExecEnds.ldsLMacl _ s
  | ldsLPr _ => exact ExecEnds.ldsLPr _ s
  | stcSr _ => exact ExecEnds.stcSr _ s
  | stcGbr _ => exact ExecEnds.stcGbr _ s
  | stcVbr _ => exact ExecEnds.stcVbr _ s
  | stcSgr _ => exact ExecEnds.stcSgr _ s
  | stcSsr _ => exact ExecEnds.stcSsr _ s
  | stcSpc _ => exact ExecEnds.stcSpc _ s
  | stcDbr _ => exact ExecEnds.stcDbr _ s
  | stcBank _ _ => exact ExecEnds.stcBank _ _ s
  | stcLSr _ => exact ExecEnds.stcLSr _ s
  | stcLGbr _ => exact ExecEnds.stcLGbr _ s
  | stcLVbr _ => exact ExecEnds.stcLVbr _ s
  | stcLSgr _ => exact ExecEnds.stcLSgr _ s
  | stcLSsr _ => exact ExecEnds.stcLSsr _ s
  | stcLSpc _ => exact ExecEnds.stcLSpc _ s
  | stcLDbr _ => exact ExecEnds.stcLDbr _ s
  | stcLBank _ _ => exact ExecEnds.stcLBank _ _ s
  | stsMach _ => exact ExecEnds.stsMach _ s
  | stsMacl _ => exact ExecEnds.stsMacl _ s
  | stsPr _ => exact ExecEnds.stsPr _ s
  | stsLMach _ => exact ExecEnds.stsLMach _ s
  | stsLMacl _ => exact ExecEnds.stsLMacl _ s
  | stsLPr _ => exact ExecEnds.stsLPr _ s
  | clrt => exact ExecEnds.clrt s
  | sett => exact ExecEnds.sett s
  | clrs => exact ExecEnds.clrs s
  | sets => exact ExecEnds.sets s
  | icbi _ => exact ExecEnds.icbi _ s
  | pref _ => exact ExecEnds.pref _ s
  | prefi _ => exact ExecEnds.prefi _ s
  | ocbi _ => exact ExecEnds.ocbi _ s
  | ocbp _ => exact ExecEnds.ocbp _ s
  | ocbwb _ => exact ExecEnds.ocbwb _ s
  | ldtlb => exact ExecEnds.ldtlb s
  | nop => exact ExecEnds.nop s
  | trapa _ => exact ExecEnds.trapa _ s
  | synco => exact ExecEnds.synco s
  | sleep => exact ExecEnds.sleep s
  | fpuGroup _ => exact ExecEnds.fpuGroup _ s
  | ldsFpul _ => exact ExecEnds.ldsFpul _ s
  | ldsFpscr _ => exact ExecEnds.ldsFpscr _ s
  | ldsLFpul _ => exact ExecEnds.ldsLFpul _ s
  | ldsLFpscr _ => exact ExecEnds.ldsLFpscr _ s
  | stsFpul _ => exact ExecEnds.stsFpul _ s
  | stsFpscr _ => exact ExecEnds.stsFpscr _ s
  | stsLFpul _ => exact ExecEnds.stsLFpul _ s
  | stsLFpscr _ => exact ExecEnds.stsLFpscr _ s

/-- Everything executing an instruction can do when it answers a next state. -/
theorem exec_next {i : Instr} {s u : State} (h : exec i s = .next u) :
    (∃ e, takeException e s = .next u) ∨ Kept i s u ∨ Delays i s u := exec_ends i s u h

/-! ## The lists of Safety, as the controller tests them -/

/-- SlotIllegalSet (44 R403). -/
theorem slotIllegal_iff (j : Instr) : SlotIllegalSet j ↔ slotIllegal j = true := by
  constructor
  · rintro ⟨d, e, n, h⟩; simp only [List.mem_cons, List.not_mem_nil, or_false] at h
    rcases h with h|h|h|h|h|h|h|h|h|h|h|h|h|h|h|h <;> subst h <;> rfl
  · intro h
    unfold SlotIllegalSet
    cases j <;> first | (cases (show false = true from h)) | skip
    case bf d => exact ⟨d, 0, 0, by simp⟩
    case bt d => exact ⟨d, 0, 0, by simp⟩
    case bfS d => exact ⟨d, 0, 0, by simp⟩
    case btS d => exact ⟨d, 0, 0, by simp⟩
    case bra d => exact ⟨0, d, 0, by simp⟩
    case bsr d => exact ⟨0, d, 0, by simp⟩
    case braf d => exact ⟨0, 0, d, by simp⟩
    case bsrf d => exact ⟨0, 0, d, by simp⟩
    case jmp d => exact ⟨0, 0, d, by simp⟩
    case jsr d => exact ⟨0, 0, d, by simp⟩
    case rts => exact ⟨0, 0, 0, by simp⟩
    case rte => exact ⟨0, 0, 0, by simp⟩
    case sleep => exact ⟨0, 0, 0, by simp⟩
    case trapa d => exact ⟨d, 0, 0, by simp⟩
    case ldcSr d => exact ⟨0, 0, d, by simp⟩
    case ldcLSr d => exact ⟨0, 0, d, by simp⟩

/-- The PC-relative instructions (44 R404). -/
theorem pcRelative_iff (j : Instr) : PcRelativeSet j ↔ pcRelative j = true := by
  constructor
  · rintro ⟨d, n, h⟩; simp only [List.mem_cons, List.not_mem_nil, or_false] at h
    rcases h with h|h|h <;> subst h <;> rfl
  · intro h
    unfold PcRelativeSet
    cases j <;> first | (cases (show false = true from h)) | skip
    case mova d => exact ⟨d, 0, by simp⟩
    case movWPc d n => exact ⟨d, n, by simp⟩
    case movLPc d n => exact ⟨d, n, by simp⟩

/-- The FPU rows (30 R128). -/
theorem exec_fpu {j : Instr} (h : FpuSet j) (s : State) :
    exec j s = .refused .fpuInstruction ∧ slotIllegal j = false ∧ pcRelative j = false := by
  obtain ⟨d, n, h⟩ := h
  simp only [List.mem_cons, List.not_mem_nil, or_false] at h
  rcases h with h | h | h | h | h | h | h | h | h <;> subst h <;> exact ⟨rfl, rfl, rfl⟩

/-! ## The pair of a delayed branch and its slot -/

section Pair
variable {i : Instr} {s u : State} {w v : Half} {t : Word}

/-- What the branch of a pair leaves (44 R401). -/
theorem Branched.writes (hs : s.ds = .normal) (h : Branched i s u t) :
    u = { s.fresh with pr := u.pr, sr := u.sr, ds := .pending t ⟨s.pc, s.pr, s.sr⟩ } ∧
    (u.sr = s.sr ∨ (i = .rte ∧ u.sr = s.ssr &&& srMask)) ∧ u.ds = .pending t ⟨s.pc, s.pr, s.sr⟩ := by
  obtain ⟨h, undo, hd⟩ := h
  rcases exec_next h with ⟨e, h⟩ | hk | ⟨hb, ⟨t', h⟩, hsr⟩
  · rw [(takeException_keeps h).1] at hd; cases hd
  · rw [hk.slot] at hd; rw [show s.fresh.ds = s.ds from rfl, hs] at hd; cases hd
  · have e : u.ds = .pending t' ⟨s.pc, s.pr, s.sr⟩ := by rw [h]; rfl
    rw [hd] at e; cases e
    exact ⟨h, hsr, hd⟩

/-- Undoing the pair returns to the state its step executed from (44 R405). -/
theorem Branched.undo (hs : s.ds = .normal) (h : Branched i s u t) (a : Word) :
    State.undoBranch { u with pc := a } = s.fresh := by
  obtain ⟨hu, -, hds⟩ := h.writes hs
  have e : State.undoBranch { u with pc := a } = { u with pc := s.pc, pr := s.pr, sr := s.sr, ds := .normal } :=
    State.undoBranch_pending (s := { u with pc := a }) (t := t) (u := ⟨s.pc, s.pr, s.sr⟩) hds
  rw [e, hu]
  cases s; simp only at hs; subst hs; rfl

/-- The step of a pair runs its slot, whose word is there to fetch. -/
theorem step_of_branched (hf : Fetches s w) (he : Encodes w i) (hb : Branched i s u t) (hv : SlotHolds u v) :
    step s = runSlot u ∧ Accessible u .read .word (u.pc + 2) := by
  obtain ⟨undo, hd⟩ := hb.2
  refine ⟨?_, ?_, hv.answers⟩
  · rw [step_of_fetches hf, runWord_of_decode he, runInstr_pending hb.1 hd]
  · have ha := hf.accessible.1
    rw [(hb.writes hf.slot).1]
    show Width.aligned .word (s.pc + 2) = true
    rw [Width.aligned_word] at *
    simp only [decide_eq_true_eq, BitVec.toNat_add] at *
    have : (2 : Word).toNat = 2 := rfl
    omega

end Pair

/-! ## No instruction sets or clears the mark (10 R50) -/

section Marks
variable {i : Instr} {s u : State}

theorem exec_mark (h : exec i s = .next u) : u.mark = s.mark := by
  rcases exec_next h with ⟨_, h⟩ | hk | ⟨_, ⟨_, hu⟩, _⟩
  · exact (takeException_keeps h).2.2.2.2.1
  · exact hk.mark
  · rw [hu]

theorem runInstr_mark (h : runInstr i s = .next u) : u.mark = s.mark := by
  rcases runInstr_next h with ⟨h, _⟩ | ⟨b, _, _, hb, _, h⟩
  · exact exec_mark h
  · rcases runSlot_next h with ⟨_, _, x, _, _, _, _, _, hx, hf⟩ | ⟨_, _, h⟩
    · have hx : x.mark = s.mark := (exec_mark hx).trans (show b.mark = s.mark from exec_mark hb)
      rcases hf with ⟨_, _, _, rfl⟩ | ⟨_, rfl⟩ <;> exact hx
    · exact (takeException_keeps h).2.2.2.2.1.trans (exec_mark hb)

/-- A step of the engine that answers a next state leaves it unmarked. -/
theorem engineStep_unmarked (h : engineStep s = .next u) : u.mark = none := by
  obtain ⟨hm, _, ⟨_, rfl⟩ | ⟨_, h⟩⟩ := engineStep_next h
  · exact hm
  · rcases State.fetch_next h with ⟨_, h⟩ | ⟨_, _, h⟩
    · unfold runWord at h
      split at h
      · exact (takeException_keeps h).2.2.2.2.1.trans hm
      · exact (runInstr_mark h).trans hm
    · exact (takeException_keeps h).2.2.2.2.1.trans hm

end Marks

end Sys2Proof.Machine
end

