-- ==== Sys2Proof/Laws/PerInstr.lean ====
section
/-! SUPPORT. Facts about every instruction as syntax, one lemma per constructor: TableRow, the word an
instruction is encoded as lies in its own row of the opcode table (30_encoding.md R126, R128). -/

namespace Sys2Proof.Laws

/-- Masking a word masks each nibble. -/
theorem nibbles_and (a b c d e f g h : BitVec 4) :
    nibbles a b c d &&& nibbles e f g h = nibbles (a &&& e) (b &&& f) (c &&& g) (d &&& h) := by
  unfold nibbles; rw [BitVec.and_append, BitVec.and_append, BitVec.and_append]

/-- A word lies in a row when each of its nibbles agrees with the row's under the mask. -/
theorem row_of_nibbles {a b c d : BitVec 4} (ma mb mc md pa pb pc pd : BitVec 4) (ha : a &&& ma = pa)
    (hb : b &&& mb = pb) (hc : c &&& mc = pc) (hd : d &&& md = pd) :
    nibbles a b c d &&& nibbles ma mb mc md = nibbles pa pb pc pd := by rw [nibbles_and, ha, hb, hc, hd]

/-- The nibble of a bank field: bit 7 of the word is 1 (R122). -/
theorem bank_nibble (b : BankReg) : (1#1 ++ b) &&& 8#4 = 8#4 := by revert b; decide

/-- The encoding of an instruction lies in its row. -/
def TableRow.Statement (i : Instr) : Prop := encode i &&& i.row.1 = i.row.2

namespace TableRow

theorem add (m : Reg) (n : Reg) : Statement (.add m n) :=
  row_of_nibbles 0xF 0x0 0x0 0xF 0x3 0x0 0x0 0xC rfl BitVec.and_zero BitVec.and_zero rfl
theorem addImm (i : BitVec 8) (n : Reg) : Statement (.addImm i n) :=
  row_of_nibbles 0xF 0x0 0x0 0x0 0x7 0x0 0x0 0x0 rfl BitVec.and_zero BitVec.and_zero BitVec.and_zero
theorem addc (m : Reg) (n : Reg) : Statement (.addc m n) :=
  row_of_nibbles 0xF 0x0 0x0 0xF 0x3 0x0 0x0 0xE rfl BitVec.and_zero BitVec.and_zero rfl
theorem addv (m : Reg) (n : Reg) : Statement (.addv m n) :=
  row_of_nibbles 0xF 0x0 0x0 0xF 0x3 0x0 0x0 0xF rfl BitVec.and_zero BitVec.and_zero rfl
theorem sub (m : Reg) (n : Reg) : Statement (.sub m n) :=
  row_of_nibbles 0xF 0x0 0x0 0xF 0x3 0x0 0x0 0x8 rfl BitVec.and_zero BitVec.and_zero rfl
theorem subc (m : Reg) (n : Reg) : Statement (.subc m n) :=
  row_of_nibbles 0xF 0x0 0x0 0xF 0x3 0x0 0x0 0xA rfl BitVec.and_zero BitVec.and_zero rfl
theorem subv (m : Reg) (n : Reg) : Statement (.subv m n) :=
  row_of_nibbles 0xF 0x0 0x0 0xF 0x3 0x0 0x0 0xB rfl BitVec.and_zero BitVec.and_zero rfl
theorem neg (m : Reg) (n : Reg) : Statement (.neg m n) :=
  row_of_nibbles 0xF 0x0 0x0 0xF 0x6 0x0 0x0 0xB rfl BitVec.and_zero BitVec.and_zero rfl
theorem negc (m : Reg) (n : Reg) : Statement (.negc m n) :=
  row_of_nibbles 0xF 0x0 0x0 0xF 0x6 0x0 0x0 0xA rfl BitVec.and_zero BitVec.and_zero rfl
theorem dt (n : Reg) : Statement (.dt n) :=
  row_of_nibbles 0xF 0x0 0xF 0xF 0x4 0x0 0x1 0x0 rfl BitVec.and_zero rfl rfl
theorem extsB (m : Reg) (n : Reg) : Statement (.extsB m n) :=
  row_of_nibbles 0xF 0x0 0x0 0xF 0x6 0x0 0x0 0xE rfl BitVec.and_zero BitVec.and_zero rfl
theorem extsW (m : Reg) (n : Reg) : Statement (.extsW m n) :=
  row_of_nibbles 0xF 0x0 0x0 0xF 0x6 0x0 0x0 0xF rfl BitVec.and_zero BitVec.and_zero rfl
theorem extuB (m : Reg) (n : Reg) : Statement (.extuB m n) :=
  row_of_nibbles 0xF 0x0 0x0 0xF 0x6 0x0 0x0 0xC rfl BitVec.and_zero BitVec.and_zero rfl
theorem extuW (m : Reg) (n : Reg) : Statement (.extuW m n) :=
  row_of_nibbles 0xF 0x0 0x0 0xF 0x6 0x0 0x0 0xD rfl BitVec.and_zero BitVec.and_zero rfl
theorem cmpEq (m : Reg) (n : Reg) : Statement (.cmpEq m n) :=
  row_of_nibbles 0xF 0x0 0x0 0xF 0x3 0x0 0x0 0x0 rfl BitVec.and_zero BitVec.and_zero rfl
theorem cmpEqImm (i : BitVec 8) : Statement (.cmpEqImm i) :=
  row_of_nibbles 0xF 0xF 0x0 0x0 0x8 0x8 0x0 0x0 rfl rfl BitVec.and_zero BitVec.and_zero
theorem cmpHs (m : Reg) (n : Reg) : Statement (.cmpHs m n) :=
  row_of_nibbles 0xF 0x0 0x0 0xF 0x3 0x0 0x0 0x2 rfl BitVec.and_zero BitVec.and_zero rfl
theorem cmpGe (m : Reg) (n : Reg) : Statement (.cmpGe m n) :=
  row_of_nibbles 0xF 0x0 0x0 0xF 0x3 0x0 0x0 0x3 rfl BitVec.and_zero BitVec.and_zero rfl
theorem cmpHi (m : Reg) (n : Reg) : Statement (.cmpHi m n) :=
  row_of_nibbles 0xF 0x0 0x0 0xF 0x3 0x0 0x0 0x6 rfl BitVec.and_zero BitVec.and_zero rfl
theorem cmpGt (m : Reg) (n : Reg) : Statement (.cmpGt m n) :=
  row_of_nibbles 0xF 0x0 0x0 0xF 0x3 0x0 0x0 0x7 rfl BitVec.and_zero BitVec.and_zero rfl
theorem cmpPz (n : Reg) : Statement (.cmpPz n) :=
  row_of_nibbles 0xF 0x0 0xF 0xF 0x4 0x0 0x1 0x1 rfl BitVec.and_zero rfl rfl
theorem cmpPl (n : Reg) : Statement (.cmpPl n) :=
  row_of_nibbles 0xF 0x0 0xF 0xF 0x4 0x0 0x1 0x5 rfl BitVec.and_zero rfl rfl
theorem cmpStr (m : Reg) (n : Reg) : Statement (.cmpStr m n) :=
  row_of_nibbles 0xF 0x0 0x0 0xF 0x2 0x0 0x0 0xC rfl BitVec.and_zero BitVec.and_zero rfl
theorem andReg (m : Reg) (n : Reg) : Statement (.andReg m n) :=
  row_of_nibbles 0xF 0x0 0x0 0xF 0x2 0x0 0x0 0x9 rfl BitVec.and_zero BitVec.and_zero rfl
theorem andImm (i : BitVec 8) : Statement (.andImm i) :=
  row_of_nibbles 0xF 0xF 0x0 0x0 0xC 0x9 0x0 0x0 rfl rfl BitVec.and_zero BitVec.and_zero
theorem andB (i : BitVec 8) : Statement (.andB i) :=
  row_of_nibbles 0xF 0xF 0x0 0x0 0xC 0xD 0x0 0x0 rfl rfl BitVec.and_zero BitVec.and_zero
theorem orReg (m : Reg) (n : Reg) : Statement (.orReg m n) :=
  row_of_nibbles 0xF 0x0 0x0 0xF 0x2 0x0 0x0 0xB rfl BitVec.and_zero BitVec.and_zero rfl
theorem orImm (i : BitVec 8) : Statement (.orImm i) :=
  row_of_nibbles 0xF 0xF 0x0 0x0 0xC 0xB 0x0 0x0 rfl rfl BitVec.and_zero BitVec.and_zero
theorem orB (i : BitVec 8) : Statement (.orB i) :=
  row_of_nibbles 0xF 0xF 0x0 0x0 0xC 0xF 0x0 0x0 rfl rfl BitVec.and_zero BitVec.and_zero
theorem xorReg (m : Reg) (n : Reg) : Statement (.xorReg m n) :=
  row_of_nibbles 0xF 0x0 0x0 0xF 0x2 0x0 0x0 0xA rfl BitVec.and_zero BitVec.and_zero rfl
theorem xorImm (i : BitVec 8) : Statement (.xorImm i) :=
  row_of_nibbles 0xF 0xF 0x0 0x0 0xC 0xA 0x0 0x0 rfl rfl BitVec.and_zero BitVec.and_zero
theorem xorB (i : BitVec 8) : Statement (.xorB i) :=
  row_of_nibbles 0xF 0xF 0x0 0x0 0xC 0xE 0x0 0x0 rfl rfl BitVec.and_zero BitVec.and_zero
theorem notReg (m : Reg) (n : Reg) : Statement (.notReg m n) :=
  row_of_nibbles 0xF 0x0 0x0 0xF 0x6 0x0 0x0 0x7 rfl BitVec.and_zero BitVec.and_zero rfl
theorem tst (m : Reg) (n : Reg) : Statement (.tst m n) :=
  row_of_nibbles 0xF 0x0 0x0 0xF 0x2 0x0 0x0 0x8 rfl BitVec.and_zero BitVec.and_zero rfl
theorem tstImm (i : BitVec 8) : Statement (.tstImm i) :=
  row_of_nibbles 0xF 0xF 0x0 0x0 0xC 0x8 0x0 0x0 rfl rfl BitVec.and_zero BitVec.and_zero
theorem tasB (n : Reg) : Statement (.tasB n) :=
  row_of_nibbles 0xF 0x0 0xF 0xF 0x4 0x0 0x1 0xB rfl BitVec.and_zero rfl rfl
theorem tstB (i : BitVec 8) : Statement (.tstB i) :=
  row_of_nibbles 0xF 0xF 0x0 0x0 0xC 0xC 0x0 0x0 rfl rfl BitVec.and_zero BitVec.and_zero
theorem shll (n : Reg) : Statement (.shll n) :=
  row_of_nibbles 0xF 0x0 0xF 0xF 0x4 0x0 0x0 0x0 rfl BitVec.and_zero rfl rfl
theorem shlr (n : Reg) : Statement (.shlr n) :=
  row_of_nibbles 0xF 0x0 0xF 0xF 0x4 0x0 0x0 0x1 rfl BitVec.and_zero rfl rfl
theorem shal (n : Reg) : Statement (.shal n) :=
  row_of_nibbles 0xF 0x0 0xF 0xF 0x4 0x0 0x2 0x0 rfl BitVec.and_zero rfl rfl
theorem shar (n : Reg) : Statement (.shar n) :=
  row_of_nibbles 0xF 0x0 0xF 0xF 0x4 0x0 0x2 0x1 rfl BitVec.and_zero rfl rfl
theorem shll2 (n : Reg) : Statement (.shll2 n) :=
  row_of_nibbles 0xF 0x0 0xF 0xF 0x4 0x0 0x0 0x8 rfl BitVec.and_zero rfl rfl
theorem shlr2 (n : Reg) : Statement (.shlr2 n) :=
  row_of_nibbles 0xF 0x0 0xF 0xF 0x4 0x0 0x0 0x9 rfl BitVec.and_zero rfl rfl
theorem shll8 (n : Reg) : Statement (.shll8 n) :=
  row_of_nibbles 0xF 0x0 0xF 0xF 0x4 0x0 0x1 0x8 rfl BitVec.and_zero rfl rfl
theorem shlr8 (n : Reg) : Statement (.shlr8 n) :=
  row_of_nibbles 0xF 0x0 0xF 0xF 0x4 0x0 0x1 0x9 rfl BitVec.and_zero rfl rfl
theorem shll16 (n : Reg) : Statement (.shll16 n) :=
  row_of_nibbles 0xF 0x0 0xF 0xF 0x4 0x0 0x2 0x8 rfl BitVec.and_zero rfl rfl
theorem shlr16 (n : Reg) : Statement (.shlr16 n) :=
  row_of_nibbles 0xF 0x0 0xF 0xF 0x4 0x0 0x2 0x9 rfl BitVec.and_zero rfl rfl
theorem rotl (n : Reg) : Statement (.rotl n) :=
  row_of_nibbles 0xF 0x0 0xF 0xF 0x4 0x0 0x0 0x4 rfl BitVec.and_zero rfl rfl
theorem rotr (n : Reg) : Statement (.rotr n) :=
  row_of_nibbles 0xF 0x0 0xF 0xF 0x4 0x0 0x0 0x5 rfl BitVec.and_zero rfl rfl
theorem rotcl (n : Reg) : Statement (.rotcl n) :=
  row_of_nibbles 0xF 0x0 0xF 0xF 0x4 0x0 0x2 0x4 rfl BitVec.and_zero rfl rfl
theorem rotcr (n : Reg) : Statement (.rotcr n) :=
  row_of_nibbles 0xF 0x0 0xF 0xF 0x4 0x0 0x2 0x5 rfl BitVec.and_zero rfl rfl
theorem shad (m : Reg) (n : Reg) : Statement (.shad m n) :=
  row_of_nibbles 0xF 0x0 0x0 0xF 0x4 0x0 0x0 0xC rfl BitVec.and_zero BitVec.and_zero rfl
theorem shld (m : Reg) (n : Reg) : Statement (.shld m n) :=
  row_of_nibbles 0xF 0x0 0x0 0xF 0x4 0x0 0x0 0xD rfl BitVec.and_zero BitVec.and_zero rfl
theorem div0u : Statement (.div0u) :=
  row_of_nibbles 0xF 0xF 0xF 0xF 0x0 0x0 0x1 0x9 rfl rfl rfl rfl
theorem div0s (m : Reg) (n : Reg) : Statement (.div0s m n) :=
  row_of_nibbles 0xF 0x0 0x0 0xF 0x2 0x0 0x0 0x7 rfl BitVec.and_zero BitVec.and_zero rfl
theorem div1 (m : Reg) (n : Reg) : Statement (.div1 m n) :=
  row_of_nibbles 0xF 0x0 0x0 0xF 0x3 0x0 0x0 0x4 rfl BitVec.and_zero BitVec.and_zero rfl
theorem dmulsL (m : Reg) (n : Reg) : Statement (.dmulsL m n) :=
  row_of_nibbles 0xF 0x0 0x0 0xF 0x3 0x0 0x0 0xD rfl BitVec.and_zero BitVec.and_zero rfl
theorem dmuluL (m : Reg) (n : Reg) : Statement (.dmuluL m n) :=
  row_of_nibbles 0xF 0x0 0x0 0xF 0x3 0x0 0x0 0x5 rfl BitVec.and_zero BitVec.and_zero rfl
theorem mulL (m : Reg) (n : Reg) : Statement (.mulL m n) :=
  row_of_nibbles 0xF 0x0 0x0 0xF 0x0 0x0 0x0 0x7 rfl BitVec.and_zero BitVec.and_zero rfl
theorem mulsW (m : Reg) (n : Reg) : Statement (.mulsW m n) :=
  row_of_nibbles 0xF 0x0 0x0 0xF 0x2 0x0 0x0 0xF rfl BitVec.and_zero BitVec.and_zero rfl
theorem muluW (m : Reg) (n : Reg) : Statement (.muluW m n) :=
  row_of_nibbles 0xF 0x0 0x0 0xF 0x2 0x0 0x0 0xE rfl BitVec.and_zero BitVec.and_zero rfl
theorem macL (m : Reg) (n : Reg) : Statement (.macL m n) :=
  row_of_nibbles 0xF 0x0 0x0 0xF 0x0 0x0 0x0 0xF rfl BitVec.and_zero BitVec.and_zero rfl
theorem macW (m : Reg) (n : Reg) : Statement (.macW m n) :=
  row_of_nibbles 0xF 0x0 0x0 0xF 0x4 0x0 0x0 0xF rfl BitVec.and_zero BitVec.and_zero rfl
theorem clrmac : Statement (.clrmac) :=
  row_of_nibbles 0xF 0xF 0xF 0xF 0x0 0x0 0x2 0x8 rfl rfl rfl rfl
theorem bf (d : BitVec 8) : Statement (.bf d) :=
  row_of_nibbles 0xF 0xF 0x0 0x0 0x8 0xB 0x0 0x0 rfl rfl BitVec.and_zero BitVec.and_zero
theorem bt (d : BitVec 8) : Statement (.bt d) :=
  row_of_nibbles 0xF 0xF 0x0 0x0 0x8 0x9 0x0 0x0 rfl rfl BitVec.and_zero BitVec.and_zero
theorem bfS (d : BitVec 8) : Statement (.bfS d) :=
  row_of_nibbles 0xF 0xF 0x0 0x0 0x8 0xF 0x0 0x0 rfl rfl BitVec.and_zero BitVec.and_zero
theorem btS (d : BitVec 8) : Statement (.btS d) :=
  row_of_nibbles 0xF 0xF 0x0 0x0 0x8 0xD 0x0 0x0 rfl rfl BitVec.and_zero BitVec.and_zero
theorem bra (d : BitVec 12) : Statement (.bra d) :=
  row_of_nibbles 0xF 0x0 0x0 0x0 0xA 0x0 0x0 0x0 rfl BitVec.and_zero BitVec.and_zero BitVec.and_zero
theorem braf (n : Reg) : Statement (.braf n) :=
  row_of_nibbles 0xF 0x0 0xF 0xF 0x0 0x0 0x2 0x3 rfl BitVec.and_zero rfl rfl
theorem bsr (d : BitVec 12) : Statement (.bsr d) :=
  row_of_nibbles 0xF 0x0 0x0 0x0 0xB 0x0 0x0 0x0 rfl BitVec.and_zero BitVec.and_zero BitVec.and_zero
theorem bsrf (n : Reg) : Statement (.bsrf n) :=
  row_of_nibbles 0xF 0x0 0xF 0xF 0x0 0x0 0x0 0x3 rfl BitVec.and_zero rfl rfl
theorem jmp (n : Reg) : Statement (.jmp n) :=
  row_of_nibbles 0xF 0x0 0xF 0xF 0x4 0x0 0x2 0xB rfl BitVec.and_zero rfl rfl
theorem jsr (n : Reg) : Statement (.jsr n) :=
  row_of_nibbles 0xF 0x0 0xF 0xF 0x4 0x0 0x0 0xB rfl BitVec.and_zero rfl rfl
theorem rts : Statement (.rts) :=
  row_of_nibbles 0xF 0xF 0xF 0xF 0x0 0x0 0x0 0xB rfl rfl rfl rfl
theorem rte : Statement (.rte) :=
  row_of_nibbles 0xF 0xF 0xF 0xF 0x0 0x0 0x2 0xB rfl rfl rfl rfl
theorem movReg (m : Reg) (n : Reg) : Statement (.movReg m n) :=
  row_of_nibbles 0xF 0x0 0x0 0xF 0x6 0x0 0x0 0x3 rfl BitVec.and_zero BitVec.and_zero rfl
theorem movImm (i : BitVec 8) (n : Reg) : Statement (.movImm i n) :=
  row_of_nibbles 0xF 0x0 0x0 0x0 0xE 0x0 0x0 0x0 rfl BitVec.and_zero BitVec.and_zero BitVec.and_zero
theorem movWPc (d : BitVec 8) (n : Reg) : Statement (.movWPc d n) :=
  row_of_nibbles 0xF 0x0 0x0 0x0 0x9 0x0 0x0 0x0 rfl BitVec.and_zero BitVec.and_zero BitVec.and_zero
theorem movLPc (d : BitVec 8) (n : Reg) : Statement (.movLPc d n) :=
  row_of_nibbles 0xF 0x0 0x0 0x0 0xD 0x0 0x0 0x0 rfl BitVec.and_zero BitVec.and_zero BitVec.and_zero
theorem movBStore (m : Reg) (n : Reg) : Statement (.movBStore m n) :=
  row_of_nibbles 0xF 0x0 0x0 0xF 0x2 0x0 0x0 0x0 rfl BitVec.and_zero BitVec.and_zero rfl
theorem movWStore (m : Reg) (n : Reg) : Statement (.movWStore m n) :=
  row_of_nibbles 0xF 0x0 0x0 0xF 0x2 0x0 0x0 0x1 rfl BitVec.and_zero BitVec.and_zero rfl
theorem movLStore (m : Reg) (n : Reg) : Statement (.movLStore m n) :=
  row_of_nibbles 0xF 0x0 0x0 0xF 0x2 0x0 0x0 0x2 rfl BitVec.and_zero BitVec.and_zero rfl
theorem movBLoad (m : Reg) (n : Reg) : Statement (.movBLoad m n) :=
  row_of_nibbles 0xF 0x0 0x0 0xF 0x6 0x0 0x0 0x0 rfl BitVec.and_zero BitVec.and_zero rfl
theorem movWLoad (m : Reg) (n : Reg) : Statement (.movWLoad m n) :=
  row_of_nibbles 0xF 0x0 0x0 0xF 0x6 0x0 0x0 0x1 rfl BitVec.and_zero BitVec.and_zero rfl
theorem movLLoad (m : Reg) (n : Reg) : Statement (.movLLoad m n) :=
  row_of_nibbles 0xF 0x0 0x0 0xF 0x6 0x0 0x0 0x2 rfl BitVec.and_zero BitVec.and_zero rfl
theorem movBStorePre (m : Reg) (n : Reg) : Statement (.movBStorePre m n) :=
  row_of_nibbles 0xF 0x0 0x0 0xF 0x2 0x0 0x0 0x4 rfl BitVec.and_zero BitVec.and_zero rfl
theorem movWStorePre (m : Reg) (n : Reg) : Statement (.movWStorePre m n) :=
  row_of_nibbles 0xF 0x0 0x0 0xF 0x2 0x0 0x0 0x5 rfl BitVec.and_zero BitVec.and_zero rfl
theorem movLStorePre (m : Reg) (n : Reg) : Statement (.movLStorePre m n) :=
  row_of_nibbles 0xF 0x0 0x0 0xF 0x2 0x0 0x0 0x6 rfl BitVec.and_zero BitVec.and_zero rfl
theorem movBLoadPost (m : Reg) (n : Reg) : Statement (.movBLoadPost m n) :=
  row_of_nibbles 0xF 0x0 0x0 0xF 0x6 0x0 0x0 0x4 rfl BitVec.and_zero BitVec.and_zero rfl
theorem movWLoadPost (m : Reg) (n : Reg) : Statement (.movWLoadPost m n) :=
  row_of_nibbles 0xF 0x0 0x0 0xF 0x6 0x0 0x0 0x5 rfl BitVec.and_zero BitVec.and_zero rfl
theorem movLLoadPost (m : Reg) (n : Reg) : Statement (.movLLoadPost m n) :=
  row_of_nibbles 0xF 0x0 0x0 0xF 0x6 0x0 0x0 0x6 rfl BitVec.and_zero BitVec.and_zero rfl
theorem movBStoreDisp (d : BitVec 4) (n : Reg) : Statement (.movBStoreDisp d n) :=
  row_of_nibbles 0xF 0xF 0x0 0x0 0x8 0x0 0x0 0x0 rfl rfl BitVec.and_zero BitVec.and_zero
theorem movWStoreDisp (d : BitVec 4) (n : Reg) : Statement (.movWStoreDisp d n) :=
  row_of_nibbles 0xF 0xF 0x0 0x0 0x8 0x1 0x0 0x0 rfl rfl BitVec.and_zero BitVec.and_zero
theorem movLStoreDisp (m : Reg) (d : BitVec 4) (n : Reg) : Statement (.movLStoreDisp m d n) :=
  row_of_nibbles 0xF 0x0 0x0 0x0 0x1 0x0 0x0 0x0 rfl BitVec.and_zero BitVec.and_zero BitVec.and_zero
theorem movBLoadDisp (d : BitVec 4) (m : Reg) : Statement (.movBLoadDisp d m) :=
  row_of_nibbles 0xF 0xF 0x0 0x0 0x8 0x4 0x0 0x0 rfl rfl BitVec.and_zero BitVec.and_zero
theorem movWLoadDisp (d : BitVec 4) (m : Reg) : Statement (.movWLoadDisp d m) :=
  row_of_nibbles 0xF 0xF 0x0 0x0 0x8 0x5 0x0 0x0 rfl rfl BitVec.and_zero BitVec.and_zero
theorem movLLoadDisp (d : BitVec 4) (m : Reg) (n : Reg) : Statement (.movLLoadDisp d m n) :=
  row_of_nibbles 0xF 0x0 0x0 0x0 0x5 0x0 0x0 0x0 rfl BitVec.and_zero BitVec.and_zero BitVec.and_zero
theorem movBStoreIdx (m : Reg) (n : Reg) : Statement (.movBStoreIdx m n) :=
  row_of_nibbles 0xF 0x0 0x0 0xF 0x0 0x0 0x0 0x4 rfl BitVec.and_zero BitVec.and_zero rfl
theorem movWStoreIdx (m : Reg) (n : Reg) : Statement (.movWStoreIdx m n) :=
  row_of_nibbles 0xF 0x0 0x0 0xF 0x0 0x0 0x0 0x5 rfl BitVec.and_zero BitVec.and_zero rfl
theorem movLStoreIdx (m : Reg) (n : Reg) : Statement (.movLStoreIdx m n) :=
  row_of_nibbles 0xF 0x0 0x0 0xF 0x0 0x0 0x0 0x6 rfl BitVec.and_zero BitVec.and_zero rfl
theorem movBLoadIdx (m : Reg) (n : Reg) : Statement (.movBLoadIdx m n) :=
  row_of_nibbles 0xF 0x0 0x0 0xF 0x0 0x0 0x0 0xC rfl BitVec.and_zero BitVec.and_zero rfl
theorem movWLoadIdx (m : Reg) (n : Reg) : Statement (.movWLoadIdx m n) :=
  row_of_nibbles 0xF 0x0 0x0 0xF 0x0 0x0 0x0 0xD rfl BitVec.and_zero BitVec.and_zero rfl
theorem movLLoadIdx (m : Reg) (n : Reg) : Statement (.movLLoadIdx m n) :=
  row_of_nibbles 0xF 0x0 0x0 0xF 0x0 0x0 0x0 0xE rfl BitVec.and_zero BitVec.and_zero rfl
theorem movBStoreGbr (d : BitVec 8) : Statement (.movBStoreGbr d) :=
  row_of_nibbles 0xF 0xF 0x0 0x0 0xC 0x0 0x0 0x0 rfl rfl BitVec.and_zero BitVec.and_zero
theorem movWStoreGbr (d : BitVec 8) : Statement (.movWStoreGbr d) :=
  row_of_nibbles 0xF 0xF 0x0 0x0 0xC 0x1 0x0 0x0 rfl rfl BitVec.and_zero BitVec.and_zero
theorem movLStoreGbr (d : BitVec 8) : Statement (.movLStoreGbr d) :=
  row_of_nibbles 0xF 0xF 0x0 0x0 0xC 0x2 0x0 0x0 rfl rfl BitVec.and_zero BitVec.and_zero
theorem movBLoadGbr (d : BitVec 8) : Statement (.movBLoadGbr d) :=
  row_of_nibbles 0xF 0xF 0x0 0x0 0xC 0x4 0x0 0x0 rfl rfl BitVec.and_zero BitVec.and_zero
theorem movWLoadGbr (d : BitVec 8) : Statement (.movWLoadGbr d) :=
  row_of_nibbles 0xF 0xF 0x0 0x0 0xC 0x5 0x0 0x0 rfl rfl BitVec.and_zero BitVec.and_zero
theorem movLLoadGbr (d : BitVec 8) : Statement (.movLLoadGbr d) :=
  row_of_nibbles 0xF 0xF 0x0 0x0 0xC 0x6 0x0 0x0 rfl rfl BitVec.and_zero BitVec.and_zero
theorem mova (d : BitVec 8) : Statement (.mova d) :=
  row_of_nibbles 0xF 0xF 0x0 0x0 0xC 0x7 0x0 0x0 rfl rfl BitVec.and_zero BitVec.and_zero
theorem movt (n : Reg) : Statement (.movt n) :=
  row_of_nibbles 0xF 0x0 0xF 0xF 0x0 0x0 0x2 0x9 rfl BitVec.and_zero rfl rfl
theorem swapB (m : Reg) (n : Reg) : Statement (.swapB m n) :=
  row_of_nibbles 0xF 0x0 0x0 0xF 0x6 0x0 0x0 0x8 rfl BitVec.and_zero BitVec.and_zero rfl
theorem swapW (m : Reg) (n : Reg) : Statement (.swapW m n) :=
  row_of_nibbles 0xF 0x0 0x0 0xF 0x6 0x0 0x0 0x9 rfl BitVec.and_zero BitVec.and_zero rfl
theorem xtrct (m : Reg) (n : Reg) : Statement (.xtrct m n) :=
  row_of_nibbles 0xF 0x0 0x0 0xF 0x2 0x0 0x0 0xD rfl BitVec.and_zero BitVec.and_zero rfl
theorem movcaL (n : Reg) : Statement (.movcaL n) :=
  row_of_nibbles 0xF 0x0 0xF 0xF 0x0 0x0 0xC 0x3 rfl BitVec.and_zero rfl rfl
theorem movliL (m : Reg) : Statement (.movliL m) :=
  row_of_nibbles 0xF 0x0 0xF 0xF 0x0 0x0 0x6 0x3 rfl BitVec.and_zero rfl rfl
theorem movcoL (n : Reg) : Statement (.movcoL n) :=
  row_of_nibbles 0xF 0x0 0xF 0xF 0x0 0x0 0x7 0x3 rfl BitVec.and_zero rfl rfl
theorem movuaL (m : Reg) : Statement (.movuaL m) :=
  row_of_nibbles 0xF 0x0 0xF 0xF 0x4 0x0 0xA 0x9 rfl BitVec.and_zero rfl rfl
theorem movuaLPost (m : Reg) : Statement (.movuaLPost m) :=
  row_of_nibbles 0xF 0x0 0xF 0xF 0x4 0x0 0xE 0x9 rfl BitVec.and_zero rfl rfl
theorem ldcSr (m : Reg) : Statement (.ldcSr m) :=
  row_of_nibbles 0xF 0x0 0xF 0xF 0x4 0x0 0x0 0xE rfl BitVec.and_zero rfl rfl
theorem ldcGbr (m : Reg) : Statement (.ldcGbr m) :=
  row_of_nibbles 0xF 0x0 0xF 0xF 0x4 0x0 0x1 0xE rfl BitVec.and_zero rfl rfl
theorem ldcVbr (m : Reg) : Statement (.ldcVbr m) :=
  row_of_nibbles 0xF 0x0 0xF 0xF 0x4 0x0 0x2 0xE rfl BitVec.and_zero rfl rfl
theorem ldcSgr (m : Reg) : Statement (.ldcSgr m) :=
  row_of_nibbles 0xF 0x0 0xF 0xF 0x4 0x0 0x3 0xA rfl BitVec.and_zero rfl rfl
theorem ldcSsr (m : Reg) : Statement (.ldcSsr m) :=
  row_of_nibbles 0xF 0x0 0xF 0xF 0x4 0x0 0x3 0xE rfl BitVec.and_zero rfl rfl
theorem ldcSpc (m : Reg) : Statement (.ldcSpc m) :=
  row_of_nibbles 0xF 0x0 0xF 0xF 0x4 0x0 0x4 0xE rfl BitVec.and_zero rfl rfl
theorem ldcDbr (m : Reg) : Statement (.ldcDbr m) :=
  row_of_nibbles 0xF 0x0 0xF 0xF 0x4 0x0 0xF 0xA rfl BitVec.and_zero rfl rfl
theorem ldcBank (m : Reg) (b : BankReg) : Statement (.ldcBank m b) :=
  row_of_nibbles 0xF 0x0 0x8 0xF 0x4 0x0 0x8 0xE rfl BitVec.and_zero (bank_nibble _) rfl
theorem ldcLSr (m : Reg) : Statement (.ldcLSr m) :=
  row_of_nibbles 0xF 0x0 0xF 0xF 0x4 0x0 0x0 0x7 rfl BitVec.and_zero rfl rfl
theorem ldcLGbr (m : Reg) : Statement (.ldcLGbr m) :=
  row_of_nibbles 0xF 0x0 0xF 0xF 0x4 0x0 0x1 0x7 rfl BitVec.and_zero rfl rfl
theorem ldcLVbr (m : Reg) : Statement (.ldcLVbr m) :=
  row_of_nibbles 0xF 0x0 0xF 0xF 0x4 0x0 0x2 0x7 rfl BitVec.and_zero rfl rfl
theorem ldcLSgr (m : Reg) : Statement (.ldcLSgr m) :=
  row_of_nibbles 0xF 0x0 0xF 0xF 0x4 0x0 0x3 0x6 rfl BitVec.and_zero rfl rfl
theorem ldcLSsr (m : Reg) : Statement (.ldcLSsr m) :=
  row_of_nibbles 0xF 0x0 0xF 0xF 0x4 0x0 0x3 0x7 rfl BitVec.and_zero rfl rfl
theorem ldcLSpc (m : Reg) : Statement (.ldcLSpc m) :=
  row_of_nibbles 0xF 0x0 0xF 0xF 0x4 0x0 0x4 0x7 rfl BitVec.and_zero rfl rfl
theorem ldcLDbr (m : Reg) : Statement (.ldcLDbr m) :=
  row_of_nibbles 0xF 0x0 0xF 0xF 0x4 0x0 0xF 0x6 rfl BitVec.and_zero rfl rfl
theorem ldcLBank (m : Reg) (b : BankReg) : Statement (.ldcLBank m b) :=
  row_of_nibbles 0xF 0x0 0x8 0xF 0x4 0x0 0x8 0x7 rfl BitVec.and_zero (bank_nibble _) rfl
theorem ldsMach (m : Reg) : Statement (.ldsMach m) :=
  row_of_nibbles 0xF 0x0 0xF 0xF 0x4 0x0 0x0 0xA rfl BitVec.and_zero rfl rfl
theorem ldsMacl (m : Reg) : Statement (.ldsMacl m) :=
  row_of_nibbles 0xF 0x0 0xF 0xF 0x4 0x0 0x1 0xA rfl BitVec.and_zero rfl rfl
theorem ldsPr (m : Reg) : Statement (.ldsPr m) :=
  row_of_nibbles 0xF 0x0 0xF 0xF 0x4 0x0 0x2 0xA rfl BitVec.and_zero rfl rfl
theorem ldsLMach (m : Reg) : Statement (.ldsLMach m) :=
  row_of_nibbles 0xF 0x0 0xF 0xF 0x4 0x0 0x0 0x6 rfl BitVec.and_zero rfl rfl
theorem ldsLMacl (m : Reg) : Statement (.ldsLMacl m) :=
  row_of_nibbles 0xF 0x0 0xF 0xF 0x4 0x0 0x1 0x6 rfl BitVec.and_zero rfl rfl
theorem ldsLPr (m : Reg) : Statement (.ldsLPr m) :=
  row_of_nibbles 0xF 0x0 0xF 0xF 0x4 0x0 0x2 0x6 rfl BitVec.and_zero rfl rfl
theorem stcSr (n : Reg) : Statement (.stcSr n) :=
  row_of_nibbles 0xF 0x0 0xF 0xF 0x0 0x0 0x0 0x2 rfl BitVec.and_zero rfl rfl
theorem stcGbr (n : Reg) : Statement (.stcGbr n) :=
  row_of_nibbles 0xF 0x0 0xF 0xF 0x0 0x0 0x1 0x2 rfl BitVec.and_zero rfl rfl
theorem stcVbr (n : Reg) : Statement (.stcVbr n) :=
  row_of_nibbles 0xF 0x0 0xF 0xF 0x0 0x0 0x2 0x2 rfl BitVec.and_zero rfl rfl
theorem stcSgr (n : Reg) : Statement (.stcSgr n) :=
  row_of_nibbles 0xF 0x0 0xF 0xF 0x0 0x0 0x3 0xA rfl BitVec.and_zero rfl rfl
theorem stcSsr (n : Reg) : Statement (.stcSsr n) :=
  row_of_nibbles 0xF 0x0 0xF 0xF 0x0 0x0 0x3 0x2 rfl BitVec.and_zero rfl rfl
theorem stcSpc (n : Reg) : Statement (.stcSpc n) :=
  row_of_nibbles 0xF 0x0 0xF 0xF 0x0 0x0 0x4 0x2 rfl BitVec.and_zero rfl rfl
theorem stcDbr (n : Reg) : Statement (.stcDbr n) :=
  row_of_nibbles 0xF 0x0 0xF 0xF 0x0 0x0 0xF 0xA rfl BitVec.and_zero rfl rfl
theorem stcBank (b : BankReg) (n : Reg) : Statement (.stcBank b n) :=
  row_of_nibbles 0xF 0x0 0x8 0xF 0x0 0x0 0x8 0x2 rfl BitVec.and_zero (bank_nibble _) rfl
theorem stcLSr (n : Reg) : Statement (.stcLSr n) :=
  row_of_nibbles 0xF 0x0 0xF 0xF 0x4 0x0 0x0 0x3 rfl BitVec.and_zero rfl rfl
theorem stcLGbr (n : Reg) : Statement (.stcLGbr n) :=
  row_of_nibbles 0xF 0x0 0xF 0xF 0x4 0x0 0x1 0x3 rfl BitVec.and_zero rfl rfl
theorem stcLVbr (n : Reg) : Statement (.stcLVbr n) :=
  row_of_nibbles 0xF 0x0 0xF 0xF 0x4 0x0 0x2 0x3 rfl BitVec.and_zero rfl rfl
theorem stcLSgr (n : Reg) : Statement (.stcLSgr n) :=
  row_of_nibbles 0xF 0x0 0xF 0xF 0x4 0x0 0x3 0x2 rfl BitVec.and_zero rfl rfl
theorem stcLSsr (n : Reg) : Statement (.stcLSsr n) :=
  row_of_nibbles 0xF 0x0 0xF 0xF 0x4 0x0 0x3 0x3 rfl BitVec.and_zero rfl rfl
theorem stcLSpc (n : Reg) : Statement (.stcLSpc n) :=
  row_of_nibbles 0xF 0x0 0xF 0xF 0x4 0x0 0x4 0x3 rfl BitVec.and_zero rfl rfl
theorem stcLDbr (n : Reg) : Statement (.stcLDbr n) :=
  row_of_nibbles 0xF 0x0 0xF 0xF 0x4 0x0 0xF 0x2 rfl BitVec.and_zero rfl rfl
theorem stcLBank (b : BankReg) (n : Reg) : Statement (.stcLBank b n) :=
  row_of_nibbles 0xF 0x0 0x8 0xF 0x4 0x0 0x8 0x3 rfl BitVec.and_zero (bank_nibble _) rfl
theorem stsMach (n : Reg) : Statement (.stsMach n) :=
  row_of_nibbles 0xF 0x0 0xF 0xF 0x0 0x0 0x0 0xA rfl BitVec.and_zero rfl rfl
theorem stsMacl (n : Reg) : Statement (.stsMacl n) :=
  row_of_nibbles 0xF 0x0 0xF 0xF 0x0 0x0 0x1 0xA rfl BitVec.and_zero rfl rfl
theorem stsPr (n : Reg) : Statement (.stsPr n) :=
  row_of_nibbles 0xF 0x0 0xF 0xF 0x0 0x0 0x2 0xA rfl BitVec.and_zero rfl rfl
theorem stsLMach (n : Reg) : Statement (.stsLMach n) :=
  row_of_nibbles 0xF 0x0 0xF 0xF 0x4 0x0 0x0 0x2 rfl BitVec.and_zero rfl rfl
theorem stsLMacl (n : Reg) : Statement (.stsLMacl n) :=
  row_of_nibbles 0xF 0x0 0xF 0xF 0x4 0x0 0x1 0x2 rfl BitVec.and_zero rfl rfl
theorem stsLPr (n : Reg) : Statement (.stsLPr n) :=
  row_of_nibbles 0xF 0x0 0xF 0xF 0x4 0x0 0x2 0x2 rfl BitVec.and_zero rfl rfl
theorem clrt : Statement (.clrt) :=
  row_of_nibbles 0xF 0xF 0xF 0xF 0x0 0x0 0x0 0x8 rfl rfl rfl rfl
theorem sett : Statement (.sett) :=
  row_of_nibbles 0xF 0xF 0xF 0xF 0x0 0x0 0x1 0x8 rfl rfl rfl rfl
theorem clrs : Statement (.clrs) :=
  row_of_nibbles 0xF 0xF 0xF 0xF 0x0 0x0 0x4 0x8 rfl rfl rfl rfl
theorem sets : Statement (.sets) :=
  row_of_nibbles 0xF 0xF 0xF 0xF 0x0 0x0 0x5 0x8 rfl rfl rfl rfl
theorem icbi (n : Reg) : Statement (.icbi n) :=
  row_of_nibbles 0xF 0x0 0xF 0xF 0x0 0x0 0xE 0x3 rfl BitVec.and_zero rfl rfl
theorem pref (n : Reg) : Statement (.pref n) :=
  row_of_nibbles 0xF 0x0 0xF 0xF 0x0 0x0 0x8 0x3 rfl BitVec.and_zero rfl rfl
theorem prefi (n : Reg) : Statement (.prefi n) :=
  row_of_nibbles 0xF 0x0 0xF 0xF 0x0 0x0 0xD 0x3 rfl BitVec.and_zero rfl rfl
theorem ocbi (n : Reg) : Statement (.ocbi n) :=
  row_of_nibbles 0xF 0x0 0xF 0xF 0x0 0x0 0x9 0x3 rfl BitVec.and_zero rfl rfl
theorem ocbp (n : Reg) : Statement (.ocbp n) :=
  row_of_nibbles 0xF 0x0 0xF 0xF 0x0 0x0 0xA 0x3 rfl BitVec.and_zero rfl rfl
theorem ocbwb (n : Reg) : Statement (.ocbwb n) :=
  row_of_nibbles 0xF 0x0 0xF 0xF 0x0 0x0 0xB 0x3 rfl BitVec.and_zero rfl rfl
theorem ldtlb : Statement (.ldtlb) :=
  row_of_nibbles 0xF 0xF 0xF 0xF 0x0 0x0 0x3 0x8 rfl rfl rfl rfl
theorem nop : Statement (.nop) :=
  row_of_nibbles 0xF 0xF 0xF 0xF 0x0 0x0 0x0 0x9 rfl rfl rfl rfl
theorem trapa (i : BitVec 8) : Statement (.trapa i) :=
  row_of_nibbles 0xF 0xF 0x0 0x0 0xC 0x3 0x0 0x0 rfl rfl BitVec.and_zero BitVec.and_zero
theorem synco : Statement (.synco) :=
  row_of_nibbles 0xF 0xF 0xF 0xF 0x0 0x0 0xA 0xB rfl rfl rfl rfl
theorem sleep : Statement (.sleep) :=
  row_of_nibbles 0xF 0xF 0xF 0xF 0x0 0x0 0x1 0xB rfl rfl rfl rfl
theorem fpuGroup (op : BitVec 12) : Statement (.fpuGroup op) :=
  row_of_nibbles 0xF 0x0 0x0 0x0 0xF 0x0 0x0 0x0 rfl BitVec.and_zero BitVec.and_zero BitVec.and_zero
theorem ldsFpul (m : Reg) : Statement (.ldsFpul m) :=
  row_of_nibbles 0xF 0x0 0xF 0xF 0x4 0x0 0x5 0xA rfl BitVec.and_zero rfl rfl
theorem ldsFpscr (m : Reg) : Statement (.ldsFpscr m) :=
  row_of_nibbles 0xF 0x0 0xF 0xF 0x4 0x0 0x6 0xA rfl BitVec.and_zero rfl rfl
theorem ldsLFpul (m : Reg) : Statement (.ldsLFpul m) :=
  row_of_nibbles 0xF 0x0 0xF 0xF 0x4 0x0 0x5 0x6 rfl BitVec.and_zero rfl rfl
theorem ldsLFpscr (m : Reg) : Statement (.ldsLFpscr m) :=
  row_of_nibbles 0xF 0x0 0xF 0xF 0x4 0x0 0x6 0x6 rfl BitVec.and_zero rfl rfl
theorem stsFpul (n : Reg) : Statement (.stsFpul n) :=
  row_of_nibbles 0xF 0x0 0xF 0xF 0x0 0x0 0x5 0xA rfl BitVec.and_zero rfl rfl
theorem stsFpscr (n : Reg) : Statement (.stsFpscr n) :=
  row_of_nibbles 0xF 0x0 0xF 0xF 0x0 0x0 0x6 0xA rfl BitVec.and_zero rfl rfl
theorem stsLFpul (n : Reg) : Statement (.stsLFpul n) :=
  row_of_nibbles 0xF 0x0 0xF 0xF 0x4 0x0 0x5 0x2 rfl BitVec.and_zero rfl rfl
theorem stsLFpscr (n : Reg) : Statement (.stsLFpscr n) :=
  row_of_nibbles 0xF 0x0 0xF 0xF 0x4 0x0 0x6 0x2 rfl BitVec.and_zero rfl rfl

end TableRow

end Sys2Proof.Laws
end

