-- ==== Sys2Proof/Tests/Slice0.lean ====
section
/-! SUPPORT. The model's own tests: ill-formed operands refused, one word of every row decoded, single steps
whose results are the spec's vectors (95_test_vectors.md, named V-... or E...) or worked by hand from the rule
named, and for every obligation with hypotheses a state and operands that meet them (witness_...). -/

namespace Sys2Proof.Tests

open Sys2Proof.Machine

/-! ## WellFormed refuses what a field cannot hold (30_encoding.md R125, R132) -/

theorem test_label_odd_distance : labelField8 0x1000 0x1005 = .error .unaligned := by decide
theorem test_label_far_forward : labelField8 0x1000 0x1104 = .error .outOfRange := by decide
theorem test_label_far_back : labelField8 0x1000 0x0F02 = .error .outOfRange := by decide
theorem test_label_ends : labelField8 0x1000 0x1102 = .ok 0x7F ∧ labelField8 0x1000 0x0F04 = .ok 0x80 := by decide
theorem test_label_twelve_far : labelField12 0x1000 0x2004 = .error .outOfRange := by decide
theorem test_label_twelve_odd : labelField12 0x1000 0x1007 = .error .unaligned := by decide
theorem test_label_twelve_ends : labelField12 0x1000 0x2002 = .ok 0x7FF ∧ labelField12 0x10000 0xF004 = .ok 0x800 := by
  decide
theorem test_literal_word_before : literalWordField 0x1000 0x1002 = .error .outOfRange := by decide
theorem test_literal_word_odd : literalWordField 0x1000 0x1005 = .error .unaligned := by decide
theorem test_literal_long_far : literalLongField 0x1000 0x1404 = .error .outOfRange := by decide
theorem test_literal_long_unaligned : literalLongField 0x1000 0x1006 = .error .unaligned := by decide
theorem test_literal_long_masks_pc : literalLongField 0x1002 0x1008 = .ok 1 := by decide
theorem test_displacement_unaligned : unsignedField 4 4 6 = .error .unaligned := by decide
theorem test_displacement_far : unsignedField 4 4 64 = .error .outOfRange := by decide
theorem test_signed_field_odd : signedField 8 (-3) = .error .unaligned := by decide

/-! ## Decoding: one word of every row, its fields' bits written into the row's encoding (30 R126, R128) -/

/-- arithmetic: R201 to R223. -/
theorem test_decode_arithmetic :
    decode 0b0011_1010_0101_1100 = .ok (.add 5 10) ∧
    decode 0b0111_1010_1100_0101 = .ok (.addImm 197 10) ∧
    decode 0b0011_1010_0101_1110 = .ok (.addc 5 10) ∧
    decode 0b0011_1010_0101_1111 = .ok (.addv 5 10) ∧
    decode 0b0011_1010_0101_1000 = .ok (.sub 5 10) ∧
    decode 0b0011_1010_0101_1010 = .ok (.subc 5 10) ∧
    decode 0b0011_1010_0101_1011 = .ok (.subv 5 10) ∧
    decode 0b0110_1010_0101_1011 = .ok (.neg 5 10) ∧
    decode 0b0110_1010_0101_1010 = .ok (.negc 5 10) ∧
    decode 0b0100_1010_0001_0000 = .ok (.dt 10) ∧
    decode 0b0110_1010_0101_1110 = .ok (.extsB 5 10) ∧
    decode 0b0110_1010_0101_1111 = .ok (.extsW 5 10) ∧
    decode 0b0110_1010_0101_1100 = .ok (.extuB 5 10) ∧
    decode 0b0110_1010_0101_1101 = .ok (.extuW 5 10) ∧
    decode 0b0011_1010_0101_0000 = .ok (.cmpEq 5 10) ∧
    decode 0b1000_1000_1100_0101 = .ok (.cmpEqImm 197) ∧
    decode 0b0011_1010_0101_0010 = .ok (.cmpHs 5 10) ∧
    decode 0b0011_1010_0101_0011 = .ok (.cmpGe 5 10) ∧
    decode 0b0011_1010_0101_0110 = .ok (.cmpHi 5 10) ∧
    decode 0b0011_1010_0101_0111 = .ok (.cmpGt 5 10) ∧
    decode 0b0100_1010_0001_0001 = .ok (.cmpPz 10) ∧
    decode 0b0100_1010_0001_0101 = .ok (.cmpPl 10) ∧
    decode 0b0010_1010_0101_1100 = .ok (.cmpStr 5 10) := by decide

/-- logic: R224 to R237. -/
theorem test_decode_logic :
    decode 0b0010_1010_0101_1001 = .ok (.andReg 5 10) ∧
    decode 0b1100_1001_1100_0101 = .ok (.andImm 197) ∧
    decode 0b1100_1101_1100_0101 = .ok (.andB 197) ∧
    decode 0b0010_1010_0101_1011 = .ok (.orReg 5 10) ∧
    decode 0b1100_1011_1100_0101 = .ok (.orImm 197) ∧
    decode 0b1100_1111_1100_0101 = .ok (.orB 197) ∧
    decode 0b0010_1010_0101_1010 = .ok (.xorReg 5 10) ∧
    decode 0b1100_1010_1100_0101 = .ok (.xorImm 197) ∧
    decode 0b1100_1110_1100_0101 = .ok (.xorB 197) ∧
    decode 0b0110_1010_0101_0111 = .ok (.notReg 5 10) ∧
    decode 0b0010_1010_0101_1000 = .ok (.tst 5 10) ∧
    decode 0b1100_1000_1100_0101 = .ok (.tstImm 197) ∧
    decode 0b0100_1010_0001_1011 = .ok (.tasB 10) ∧
    decode 0b1100_1100_1100_0101 = .ok (.tstB 197) := by decide

/-- shift and rotate: R301 to R316. -/
theorem test_decode_shift_and_rotate :
    decode 0b0100_1010_0000_0000 = .ok (.shll 10) ∧
    decode 0b0100_1010_0000_0001 = .ok (.shlr 10) ∧
    decode 0b0100_1010_0010_0000 = .ok (.shal 10) ∧
    decode 0b0100_1010_0010_0001 = .ok (.shar 10) ∧
    decode 0b0100_1010_0000_1000 = .ok (.shll2 10) ∧
    decode 0b0100_1010_0000_1001 = .ok (.shlr2 10) ∧
    decode 0b0100_1010_0001_1000 = .ok (.shll8 10) ∧
    decode 0b0100_1010_0001_1001 = .ok (.shlr8 10) ∧
    decode 0b0100_1010_0010_1000 = .ok (.shll16 10) ∧
    decode 0b0100_1010_0010_1001 = .ok (.shlr16 10) ∧
    decode 0b0100_1010_0000_0100 = .ok (.rotl 10) ∧
    decode 0b0100_1010_0000_0101 = .ok (.rotr 10) ∧
    decode 0b0100_1010_0010_0100 = .ok (.rotcl 10) ∧
    decode 0b0100_1010_0010_0101 = .ok (.rotcr 10) ∧
    decode 0b0100_1010_0101_1100 = .ok (.shad 5 10) ∧
    decode 0b0100_1010_0101_1101 = .ok (.shld 5 10) := by decide

/-- division and multiply: R351 to R379. -/
theorem test_decode_division_and_multiply :
    decode 0b0000_0000_0001_1001 = .ok .div0u ∧
    decode 0b0010_1010_0101_0111 = .ok (.div0s 5 10) ∧
    decode 0b0011_1010_0101_0100 = .ok (.div1 5 10) ∧
    decode 0b0011_1010_0101_1101 = .ok (.dmulsL 5 10) ∧
    decode 0b0011_1010_0101_0101 = .ok (.dmuluL 5 10) ∧
    decode 0b0000_1010_0101_0111 = .ok (.mulL 5 10) ∧
    decode 0b0010_1010_0101_1111 = .ok (.mulsW 5 10) ∧
    decode 0b0010_1010_0101_1110 = .ok (.muluW 5 10) ∧
    decode 0b0000_1010_0101_1111 = .ok (.macL 5 10) ∧
    decode 0b0100_1010_0101_1111 = .ok (.macW 5 10) ∧
    decode 0b0000_0000_0010_1000 = .ok .clrmac := by decide

/-- branch: R410 to R421. -/
theorem test_decode_branch :
    decode 0b1000_1011_1011_0001 = .ok (.bf 177) ∧
    decode 0b1000_1001_1011_0001 = .ok (.bt 177) ∧
    decode 0b1000_1111_1011_0001 = .ok (.bfS 177) ∧
    decode 0b1000_1101_1011_0001 = .ok (.btS 177) ∧
    decode 0b1010_1001_1100_0101 = .ok (.bra 2501) ∧
    decode 0b0000_1010_0010_0011 = .ok (.braf 10) ∧
    decode 0b1011_1001_1100_0101 = .ok (.bsr 2501) ∧
    decode 0b0000_1010_0000_0011 = .ok (.bsrf 10) ∧
    decode 0b0100_1010_0010_1011 = .ok (.jmp 10) ∧
    decode 0b0100_1010_0000_1011 = .ok (.jsr 10) ∧
    decode 0b0000_0000_0000_1011 = .ok .rts ∧
    decode 0b0000_0000_0010_1011 = .ok .rte := by decide

/-- load and store: R452 to R472. -/
theorem test_decode_load_and_store :
    decode 0b0110_1010_0101_0011 = .ok (.movReg 5 10) ∧
    decode 0b1110_1010_1100_0101 = .ok (.movImm 197 10) ∧
    decode 0b1001_1010_1011_0001 = .ok (.movWPc 177 10) ∧
    decode 0b1101_1010_1011_0001 = .ok (.movLPc 177 10) ∧
    decode 0b0010_1010_0101_0000 = .ok (.movBStore 5 10) ∧
    decode 0b0010_1010_0101_0001 = .ok (.movWStore 5 10) ∧
    decode 0b0010_1010_0101_0010 = .ok (.movLStore 5 10) ∧
    decode 0b0110_1010_0101_0000 = .ok (.movBLoad 5 10) ∧
    decode 0b0110_1010_0101_0001 = .ok (.movWLoad 5 10) ∧
    decode 0b0110_1010_0101_0010 = .ok (.movLLoad 5 10) ∧
    decode 0b0010_1010_0101_0100 = .ok (.movBStorePre 5 10) ∧
    decode 0b0010_1010_0101_0101 = .ok (.movWStorePre 5 10) ∧
    decode 0b0010_1010_0101_0110 = .ok (.movLStorePre 5 10) ∧
    decode 0b0110_1010_0101_0100 = .ok (.movBLoadPost 5 10) ∧
    decode 0b0110_1010_0101_0101 = .ok (.movWLoadPost 5 10) ∧
    decode 0b0110_1010_0101_0110 = .ok (.movLLoadPost 5 10) ∧
    decode 0b1000_0000_1010_1101 = .ok (.movBStoreDisp 13 10) ∧
    decode 0b1000_0001_1010_1101 = .ok (.movWStoreDisp 13 10) ∧
    decode 0b0001_1010_0101_1101 = .ok (.movLStoreDisp 5 13 10) ∧
    decode 0b1000_0100_0101_1101 = .ok (.movBLoadDisp 13 5) ∧
    decode 0b1000_0101_0101_1101 = .ok (.movWLoadDisp 13 5) := by decide

/-- load and store more: R473 to R495. -/
theorem test_decode_load_and_store_more :
    decode 0b0101_1010_0101_1101 = .ok (.movLLoadDisp 13 5 10) ∧
    decode 0b0000_1010_0101_0100 = .ok (.movBStoreIdx 5 10) ∧
    decode 0b0000_1010_0101_0101 = .ok (.movWStoreIdx 5 10) ∧
    decode 0b0000_1010_0101_0110 = .ok (.movLStoreIdx 5 10) ∧
    decode 0b0000_1010_0101_1100 = .ok (.movBLoadIdx 5 10) ∧
    decode 0b0000_1010_0101_1101 = .ok (.movWLoadIdx 5 10) ∧
    decode 0b0000_1010_0101_1110 = .ok (.movLLoadIdx 5 10) ∧
    decode 0b1100_0000_1011_0001 = .ok (.movBStoreGbr 177) ∧
    decode 0b1100_0001_1011_0001 = .ok (.movWStoreGbr 177) ∧
    decode 0b1100_0010_1011_0001 = .ok (.movLStoreGbr 177) ∧
    decode 0b1100_0100_1011_0001 = .ok (.movBLoadGbr 177) ∧
    decode 0b1100_0101_1011_0001 = .ok (.movWLoadGbr 177) ∧
    decode 0b1100_0110_1011_0001 = .ok (.movLLoadGbr 177) ∧
    decode 0b1100_0111_1011_0001 = .ok (.mova 177) ∧
    decode 0b0000_1010_0010_1001 = .ok (.movt 10) ∧
    decode 0b0110_1010_0101_1000 = .ok (.swapB 5 10) ∧
    decode 0b0110_1010_0101_1001 = .ok (.swapW 5 10) ∧
    decode 0b0010_1010_0101_1101 = .ok (.xtrct 5 10) ∧
    decode 0b0000_1010_1100_0011 = .ok (.movcaL 10) ∧
    decode 0b0000_0101_0110_0011 = .ok (.movliL 5) ∧
    decode 0b0000_1010_0111_0011 = .ok (.movcoL 10) ∧
    decode 0b0100_0101_1010_1001 = .ok (.movuaL 5) ∧
    decode 0b0100_0101_1110_1001 = .ok (.movuaLPost 5) := by decide

/-- control loads: R521 to R542. -/
theorem test_decode_control_loads :
    decode 0b0100_0101_0000_1110 = .ok (.ldcSr 5) ∧
    decode 0b0100_0101_0001_1110 = .ok (.ldcGbr 5) ∧
    decode 0b0100_0101_0010_1110 = .ok (.ldcVbr 5) ∧
    decode 0b0100_0101_0011_1010 = .ok (.ldcSgr 5) ∧
    decode 0b0100_0101_0011_1110 = .ok (.ldcSsr 5) ∧
    decode 0b0100_0101_0100_1110 = .ok (.ldcSpc 5) ∧
    decode 0b0100_0101_1111_1010 = .ok (.ldcDbr 5) ∧
    decode 0b0100_0101_1110_1110 = .ok (.ldcBank 5 6) ∧
    decode 0b0100_0101_0000_0111 = .ok (.ldcLSr 5) ∧
    decode 0b0100_0101_0001_0111 = .ok (.ldcLGbr 5) ∧
    decode 0b0100_0101_0010_0111 = .ok (.ldcLVbr 5) ∧
    decode 0b0100_0101_0011_0110 = .ok (.ldcLSgr 5) ∧
    decode 0b0100_0101_0011_0111 = .ok (.ldcLSsr 5) ∧
    decode 0b0100_0101_0100_0111 = .ok (.ldcLSpc 5) ∧
    decode 0b0100_0101_1111_0110 = .ok (.ldcLDbr 5) ∧
    decode 0b0100_0101_1110_0111 = .ok (.ldcLBank 5 6) ∧
    decode 0b0100_0101_0000_1010 = .ok (.ldsMach 5) ∧
    decode 0b0100_0101_0001_1010 = .ok (.ldsMacl 5) ∧
    decode 0b0100_0101_0010_1010 = .ok (.ldsPr 5) ∧
    decode 0b0100_0101_0000_0110 = .ok (.ldsLMach 5) ∧
    decode 0b0100_0101_0001_0110 = .ok (.ldsLMacl 5) ∧
    decode 0b0100_0101_0010_0110 = .ok (.ldsLPr 5) := by decide

/-- control stores: R543 to R564. -/
theorem test_decode_control_stores :
    decode 0b0000_1010_0000_0010 = .ok (.stcSr 10) ∧
    decode 0b0000_1010_0001_0010 = .ok (.stcGbr 10) ∧
    decode 0b0000_1010_0010_0010 = .ok (.stcVbr 10) ∧
    decode 0b0000_1010_0011_1010 = .ok (.stcSgr 10) ∧
    decode 0b0000_1010_0011_0010 = .ok (.stcSsr 10) ∧
    decode 0b0000_1010_0100_0010 = .ok (.stcSpc 10) ∧
    decode 0b0000_1010_1111_1010 = .ok (.stcDbr 10) ∧
    decode 0b0000_1010_1110_0010 = .ok (.stcBank 6 10) ∧
    decode 0b0100_1010_0000_0011 = .ok (.stcLSr 10) ∧
    decode 0b0100_1010_0001_0011 = .ok (.stcLGbr 10) ∧
    decode 0b0100_1010_0010_0011 = .ok (.stcLVbr 10) ∧
    decode 0b0100_1010_0011_0010 = .ok (.stcLSgr 10) ∧
    decode 0b0100_1010_0011_0011 = .ok (.stcLSsr 10) ∧
    decode 0b0100_1010_0100_0011 = .ok (.stcLSpc 10) ∧
    decode 0b0100_1010_1111_0010 = .ok (.stcLDbr 10) ∧
    decode 0b0100_1010_1110_0011 = .ok (.stcLBank 6 10) ∧
    decode 0b0000_1010_0000_1010 = .ok (.stsMach 10) ∧
    decode 0b0000_1010_0001_1010 = .ok (.stsMacl 10) ∧
    decode 0b0000_1010_0010_1010 = .ok (.stsPr 10) ∧
    decode 0b0100_1010_0000_0010 = .ok (.stsLMach 10) ∧
    decode 0b0100_1010_0001_0010 = .ok (.stsLMacl 10) ∧
    decode 0b0100_1010_0010_0010 = .ok (.stsLPr 10) := by decide

/-- system: R570 to R586. -/
theorem test_decode_system :
    decode 0b0000_0000_0000_1000 = .ok .clrt ∧
    decode 0b0000_0000_0001_1000 = .ok .sett ∧
    decode 0b0000_0000_0100_1000 = .ok .clrs ∧
    decode 0b0000_0000_0101_1000 = .ok .sets ∧
    decode 0b0000_1010_1110_0011 = .ok (.icbi 10) ∧
    decode 0b0000_1010_1000_0011 = .ok (.pref 10) ∧
    decode 0b0000_1010_1101_0011 = .ok (.prefi 10) ∧
    decode 0b0000_1010_1001_0011 = .ok (.ocbi 10) ∧
    decode 0b0000_1010_1010_0011 = .ok (.ocbp 10) ∧
    decode 0b0000_1010_1011_0011 = .ok (.ocbwb 10) ∧
    decode 0b0000_0000_0011_1000 = .ok .ldtlb ∧
    decode 0b0000_0000_0000_1001 = .ok .nop ∧
    decode 0b1100_0011_1100_0101 = .ok (.trapa 197) ∧
    decode 0b0000_0000_1010_1011 = .ok .synco ∧
    decode 0b0000_0000_0001_1011 = .ok .sleep := by decide

/-- fpu: R128 to R128. -/
theorem test_decode_fpu :
    decode 0b1111_1000_0000_1100 = .ok (.fpuGroup 2060) ∧
    decode 0b0100_0101_0101_1010 = .ok (.ldsFpul 5) ∧
    decode 0b0100_0101_0110_1010 = .ok (.ldsFpscr 5) ∧
    decode 0b0100_0101_0101_0110 = .ok (.ldsLFpul 5) ∧
    decode 0b0100_0101_0110_0110 = .ok (.ldsLFpscr 5) ∧
    decode 0b0000_1010_0101_1010 = .ok (.stsFpul 10) ∧
    decode 0b0000_1010_0110_1010 = .ok (.stsFpscr 10) ∧
    decode 0b0100_1010_0101_0010 = .ok (.stsLFpul 10) ∧
    decode 0b0100_1010_0110_0010 = .ok (.stsLFpscr 10) := by decide

/-- Words of R129's list do not decode: 0x0000, 0x0108, 0x2003, 0x3009, 0x40FB, 0x8200. -/
theorem test_decode_undefined :
    decode 0x0000 = .error .undefinedWord ∧ decode 0x0108 = .error .undefinedWord ∧
    decode 0x2003 = .error .undefinedWord ∧ decode 0x3009 = .error .undefinedWord ∧
    decode 0x40FB = .error .undefinedWord ∧ decode 0x8200 = .error .undefinedWord := by decide

theorem test_decodeTableWord : decodeTableWord 16 0x321C = some (.add 1 2) ∧ decodeTableWord 16 0x0000 = none := by
  decide

/-! ## Single steps -/

/-- The vectors' start state: reset, PC = 0x1000. -/
def start : State := { State.reset with pc := 0x1000 }

/-- `s` with registers set. -/
def regs (l : List (Nat × Word)) (s : State := start) : State :=
  l.foldl (fun s p => s.setR (BitVec.ofNat 4 p.1) p.2) s

/-- `s` with longs stored. -/
def longs (l : List (Word × Word)) (s : State) : State := l.foldl (fun s p => s.memWrite .long p.1 p.2) s

/-- `s` with instruction words stored from `a` on. -/
def words : List Half → Word → State → State
  | [], _, s => s
  | w :: ws, a, s => words ws (a + 2) (s.memWrite .word a (w.setWidth 32))

/-- What `f` reads in the state after one step on the words at PC. -/
def after {α : Type} (ws : List Half) (s : State) (f : State → α) : Option α :=
  match step (words ws s.pc s) with
  | .next u => some (f u)
  | _ => none

/-- The fault one step on the words at PC ends in. -/
def faultOf (ws : List Half) (s : State) : Option Fault :=
  match step (words ws s.pc s) with
  | .fault f => some f
  | _ => none

/-! ### Arithmetic, compare, logic (V-A, V-C, V-L) -/

/-- E1. -/
theorem test_add : after [0x321C] (regs [(1, 1), (2, 0xFFFFFFFF)])
    (fun u => (u.r 2, u.r 1, u.t, u.pc)) = some (0, 1, false, 0x1002) := by decide
/-- V-A2. -/
theorem test_addImm : after [0x737F] (regs [(3, 0x7FFFFFFF)])
    (fun u => (u.r 3, u.t)) = some (0x8000007E, false) := by decide
/-- V-A3. -/
theorem test_addc : after [0x321E] (regs [(1, 0xFFFFFFFF)] (start.setT true))
    (fun u => (u.r 2, u.t)) = some (0, true) := by decide
/-- E2. -/
theorem test_addv : after [0x321F] (regs [(1, 1), (2, 0x7FFFFFFF)])
    (fun u => (u.r 2, u.t)) = some (0x80000000, true) := by decide
/-- E2. -/
theorem test_addv_opposite : after [0x321F] (regs [(1, 0xFFFFFFFF), (2, 1)])
    (fun u => (u.r 2, u.t)) = some (0, false) := by decide
/-- V-A5. -/
theorem test_sub : after [0x3218] (regs [(1, 1)]) (fun u => (u.r 2, u.t)) = some (0xFFFFFFFF, false) := by decide
/-- V-A6. -/
theorem test_subc : after [0x321A] (start.setT true) (fun u => (u.r 2, u.t)) = some (0xFFFFFFFF, true) := by decide
/-- V-A7. -/
theorem test_subc_no_borrow : after [0x321A] (regs [(1, 1), (2, 2)] (start.setT true))
    (fun u => (u.r 2, u.t)) = some (0, false) := by decide
/-- V-A8. -/
theorem test_subv : after [0x321B] (regs [(1, 1), (2, 0x80000000)])
    (fun u => (u.r 2, u.t)) = some (0x7FFFFFFF, true) := by decide
/-- V-A10. -/
theorem test_subv_in_range : after [0x321B] (regs [(1, 3), (2, 5)])
    (fun u => (u.r 2, u.t)) = some (2, false) := by decide
/-- V-A11. -/
theorem test_neg : after [0x621B] (regs [(1, 0x80000000)]) (fun u => u.r 2) = some 0x80000000 := by decide
/-- V-A13. -/
theorem test_negc : after [0x621A] (start.setT true) (fun u => (u.r 2, u.t)) = some (0xFFFFFFFF, true) := by decide
/-- V-A16. -/
theorem test_dt : after [0x4210] (regs [(2, 1)]) (fun u => (u.r 2, u.t)) = some (0, true) := by decide
/-- V-A15. -/
theorem test_dt_wraps : after [0x4210] start (fun u => (u.r 2, u.t)) = some (0xFFFFFFFF, false) := by decide
/-- R211: bit 7 set. -/
theorem test_extsB : after [0x621E] (regs [(1, 0x1280)]) (fun u => u.r 2) = some 0xFFFFFF80 := by decide
/-- R212: bit 15 set. -/
theorem test_extsW : after [0x621F] (regs [(1, 0x128000)]) (fun u => u.r 2) = some 0xFFFF8000 := by decide
/-- R213. -/
theorem test_extuB : after [0x621C] (regs [(1, 0xFFFFFFFF)]) (fun u => u.r 2) = some 0xFF := by decide
/-- V-A18. -/
theorem test_extuW : after [0x621D] (regs [(1, 0xFFFFFFFF)]) (fun u => u.r 2) = some 0xFFFF := by decide
/-- V-C1. -/
theorem test_cmpEqImm : after [0x88FF] (regs [(0, 0xFF)]) (fun u => u.t) = some false := by decide
/-- V-C2. -/
theorem test_cmpHs : after [0x3212] (regs [(1, 0xFFFFFFFF), (2, 1)]) (fun u => u.t) = some false := by decide
/-- V-C3. -/
theorem test_cmpGe : after [0x3213] (regs [(1, 0xFFFFFFFF), (2, 1)]) (fun u => u.t) = some true := by decide
/-- V-C4. -/
theorem test_cmpHi : after [0x3216] (regs [(1, 5), (2, 5)]) (fun u => u.t) = some false := by decide
/-- V-C5. -/
theorem test_cmpGt : after [0x3217] (regs [(1, 0x80000000), (2, 0x7FFFFFFF)]) (fun u => u.t) = some true := by decide
/-- V-C6. -/
theorem test_cmpPz : after [0x4211] (regs [(2, 0x80000000)]) (fun u => u.t) = some false := by decide
/-- V-C7. -/
theorem test_cmpPl : after [0x4215] (regs [(2, 1)]) (fun u => u.t) = some true := by decide
/-- V-C8. -/
theorem test_cmpStr : after [0x221C] (regs [(2, 0xFF)]) (fun u => u.t) = some true := by decide
/-- E4. -/
theorem test_cmpStr_no_byte : after [0x221C] (regs [(1, 0x11223344), (2, 0x22334455)])
    (fun u => u.t) = some false := by decide
/-- V-L1. -/
theorem test_andImm : after [0xC9F0] (regs [(0, 0xFFFFFFFF)]) (fun u => u.r 0) = some 0xF0 := by decide
/-- V-L2. -/
theorem test_orImm : after [0xCB80] start (fun u => u.r 0) = some 0x80 := by decide
/-- V-L3. -/
theorem test_xorImm : after [0xCAFF] (regs [(0, 0xFFFFFFFF)]) (fun u => u.r 0) = some 0xFFFFFF00 := by decide
/-- V-L4. -/
theorem test_not : after [0x6217] start (fun u => u.r 2) = some 0xFFFFFFFF := by decide
/-- V-L5. -/
theorem test_tst : after [0x2218] (regs [(1, 0x0F), (2, 0xF0)])
    (fun u => (u.t, u.r 2)) = some (true, 0xF0) := by decide
/-- V-L7. -/
theorem test_andB : after [0xCD0F] (longs [(0x2004, 0xAB)] (regs [(0, 4)] { start with gbr := 0x2000 }))
    (fun u => u.byteAt 0x2004) = some 0x0B := by decide
/-- V-L8. -/
theorem test_orB : after [0xCF80] (longs [(0x2004, 0x01)] (regs [(0, 4)] { start with gbr := 0x2000 }))
    (fun u => u.byteAt 0x2004) = some 0x81 := by decide
/-- V-L9. -/
theorem test_xorB : after [0xCEFF] (longs [(0x2004, 0x0F)] (regs [(0, 4)] { start with gbr := 0x2000 }))
    (fun u => u.byteAt 0x2004) = some 0xF0 := by decide
/-- V-L10. -/
theorem test_tstB : after [0xCC01] (longs [(0x2004, 0xFE)] (regs [(0, 4)] { start with gbr := 0x2000 }))
    (fun u => (u.t, u.byteAt 0x2004)) = some (true, 0xFE) := by decide
/-- V-L11. -/
theorem test_tasB : after [0x441B] (longs [(0x2000, 0x7F)] (regs [(4, 0x2000)]))
    (fun u => (u.t, u.byteAt 0x2000)) = some (false, 0xFF) := by decide
/-- V-L12. -/
theorem test_tasB_free : after [0x441B] (regs [(4, 0x2000)])
    (fun u => (u.t, u.byteAt 0x2000)) = some (true, 0x80) := by decide

/-! ### Shifts, division, multiply (V-S, V-D, V-M) -/

/-- V-S1. -/
theorem test_shlr : after [0x4101] (regs [(1, 1)]) (fun u => (u.r 1, u.t)) = some (0, true) := by decide
/-- V-S2. -/
theorem test_shar : after [0x4121] (regs [(1, 0xFFFFFFFF)])
    (fun u => (u.r 1, u.t)) = some (0xFFFFFFFF, true) := by decide
/-- V-S3. -/
theorem test_rotl : after [0x4104] (regs [(1, 0x80000001)]) (fun u => (u.r 1, u.t)) = some (3, true) := by decide
/-- V-S4. -/
theorem test_rotr : after [0x4105] (regs [(1, 0x80000001)])
    (fun u => (u.r 1, u.t)) = some (0xC0000000, true) := by decide
/-- V-S5. -/
theorem test_rotcl : after [0x4124] (regs [(1, 0x7FFFFFFF)] (start.setT true))
    (fun u => (u.r 1, u.t)) = some (0xFFFFFFFF, false) := by decide
/-- V-S6. -/
theorem test_rotcr : after [0x4125] (regs [(1, 0xFFFFFFFE)])
    (fun u => (u.r 1, u.t)) = some (0x7FFFFFFF, false) := by decide
/-- V-S8. -/
theorem test_shad_all_sign_bits : after [0x421C] (regs [(1, 0xFFFFFFE0), (2, 0x80000000)])
    (fun u => u.r 2) = some 0xFFFFFFFF := by decide
/-- V-S11. -/
theorem test_shad_right_one : after [0x421C] (regs [(1, 0xFFFFFFFF), (2, 0x80000000)])
    (fun u => u.r 2) = some 0xC0000000 := by decide
/-- V-S14. -/
theorem test_shld_all_out : after [0x421D] (regs [(1, 0xFFFFFFE0), (2, 0x80000000)])
    (fun u => u.r 2) = some 0 := by decide
/-- V-S15. -/
theorem test_shld_right_one : after [0x421D] (regs [(1, 0xFFFFFFFF), (2, 0x80000000)])
    (fun u => u.r 2) = some 0x40000000 := by decide
/-- V-D1. -/
theorem test_div0s : after [0x2017] (regs [(1, 0x80000000)])
    (fun u => (u.q, u.m, u.t)) = some (false, true, true) := by decide
/-- V-D2. -/
theorem test_div1 : after [0x3214] (regs [(2, 0x80000000)] (start.setT true))
    (fun u => (u.r 2, u.q, u.t)) = some (1, true, false) := by decide
/-- E3, step 1. -/
theorem test_div1_borrow : after [0x3214] (regs [(1, 1)])
    (fun u => (u.r 2, u.q, u.t)) = some (0xFFFFFFFF, true, false) := by decide
/-- V-M2. -/
theorem test_dmulsL : after [0x321D] (regs [(1, 0x7FFFFFFF), (2, 0xFFFFFFFF)])
    (fun u => u.mac) = some 0xFFFFFFFF80000001 := by decide
/-- V-M3. -/
theorem test_dmuluL : after [0x3215] (regs [(1, 0xFFFFFFFF), (2, 0xFFFFFFFF)])
    (fun u => u.mac) = some 0xFFFFFFFE00000001 := by decide
/-- V-M4. -/
theorem test_mulL : after [0x0217] (regs [(1, 0x10000), (2, 0x10000)] { start with mac := 0x123400000000 })
    (fun u => (u.macl, u.mach)) = some (0, 0x1234) := by decide
/-- V-M5. -/
theorem test_mulsW : after [0x221F] (regs [(1, 0xFFFF), (2, 2)])
    (fun u => (u.macl, u.mach)) = some (0xFFFFFFFE, 0) := by decide
/-- V-M7. -/
theorem test_muluW : after [0x221E] (regs [(1, 0xFFFF), (2, 0xFFFF)]) (fun u => u.macl) = some 0xFFFE0001 := by decide
/-- V-M8. -/
theorem test_macL_same_register : after [0x044F] (longs [(0x2000, 2), (0x2004, 3)] (regs [(4, 0x2000)]))
    (fun u => (u.mac, u.r 4)) = some (6, 0x2008) := by decide
/-- V-M9. -/
theorem test_macL_saturates : after [0x054F] (longs [(0x2000, 0xFFFFFFFF), (0x2010, 1)] (regs [(4, 0x2000), (5, 0x2010)] { start with sr := 2, mac := 0xFFFF800000000000 }))
    (fun u => u.mac) = some 0xFFFF800000000000 := by decide
/-- V-M12. -/
theorem test_macW_saturates : after [0x476F] (longs [(0x2000, 0xFFF0), (0x2010, 0x10)] (regs [(6, 0x2000), (7, 0x2010)] { start with sr := 2, mac := 0xFFFFFFFF80000010 }))
    (fun u => u.mac) = some 0xFFFFFFFF80000000 := by decide
/-- V-M15. -/
theorem test_macW_same_register : after [0x466F] (longs [(0x2000, 0xFFFF0003)] (regs [(6, 0x2000)]))
    (fun u => (u.mac, u.r 6)) = some (0xFFFFFFFFFFFFFFFD, 0x2004) := by decide
/-- V-M16. -/
theorem test_clrmac : after [0x0028] { start with mac := 0x123456789ABCDEF0 } (fun u => u.mac) = some 0 := by decide

/-! ### Branches and slots (V-B) -/

/-- V-B1. -/
theorem test_bf : after [0x8B80] start (fun u => u.pc) = some 0xF04 := by decide
/-- V-B2. -/
theorem test_bf_not_taken : after [0x8B06] (start.setT true) (fun u => u.pc) = some 0x1002 := by decide
/-- V-B3. -/
theorem test_btS_not_taken : after [0x8D06, 0x7101] start (fun u => (u.r 1, u.pc)) = some (1, 0x1004) := by decide
/-- V-B4. -/
theorem test_btS_reads_t_first : after [0x8D06, 0x0008] (start.setT true)
    (fun u => (u.t, u.pc)) = some (false, 0x1010) := by decide
/-- E6. -/
theorem test_bfS : after [0x8F06, 0x7101] start (fun u => (u.r 1, u.pc)) = some (1, 0x1010) := by decide
/-- E6. -/
theorem test_bra : after [0xA006, 0x7101] start
    (fun u => (u.r 1, u.pc, u.ds)) = some (1, 0x1010, .normal) := by decide
/-- V-B6. -/
theorem test_braf : after [0x0323, 0x0009] (regs [(3, 0xFFFFFFFC)]) (fun u => u.pc) = some 0x1000 := by decide
/-- V-B7. -/
theorem test_bsr : after [0xB006, 0x012A] start
    (fun u => (u.pr, u.r 1, u.pc)) = some (0x1004, 0x1004, 0x1010) := by decide
/-- V-B8. -/
theorem test_jmp : after [0x412B, 0xE100] (regs [(1, 0x2000)])
    (fun u => (u.r 1, u.pc)) = some (0, 0x2000) := by decide
/-- V-B9. -/
theorem test_rts : after [0x000B, 0x452A] (regs [(5, 0x4000)] { start with pr := 0x3000 })
    (fun u => (u.pr, u.pc)) = some (0x4000, 0x3000) := by decide
/-- V-B17. -/
theorem test_rte : after [0x002B, 0x0029] { start with spc := 0x3000, ssr := 1, sr := 0x70000000 }
    (fun u => (u.sr, u.r 0, u.pc)) = some (1, 1, 0x3000) := by decide
/-- V-B10. -/
theorem test_branch_in_slot : faultOf [0xA006, 0xA006] start = some .slotIllegal := by decide
/-- V-B13. -/
theorem test_undefined_in_slot : faultOf [0xA006, 0x0000] start = some .slotIllegal := by decide
/-- V-B14. -/
theorem test_pc_relative_in_slot : faultOf [0xA006, 0xD201] start = some .slotPcRelative := by decide
/-- V-B15. -/
theorem test_pc_relative_in_slot_at_its_address : after [0xA006, 0xD201] (longs [(0x1008, 0xCAFEF00D)] { start with params := { slotPcRel := .slotAddress } })
    (fun u => (u.r 2, u.pc)) = some (0xCAFEF00D, 0x1010) := by decide
/-- V-B16. -/
theorem test_misaligned_in_slot : faultOf [0xA006, 0x6212] (regs [(1, 0x2002)]) = some .misalignedData := by decide
/-- R405: BSR in the pair leaves PR and SPC as before it. -/
theorem test_exception_in_slot_undoes_the_pair : after [0xB006, 0x6212] (regs [(1, 0x2002)] { start with params := { misaligned := .exception }, pr := 0x3000 })
    (fun u => (u.spc, u.pr, u.tea, u.pc)) = some (0x1000, 0x3000, 0x2002, 0x100) := by decide

/-! ### Loads, stores, moves (V-LS, E8) -/

/-- V-LS1. -/
theorem test_movBLoad : after [0x6210] (longs [(0x2000, 0x80)] (regs [(1, 0x2000)]))
    (fun u => u.r 2) = some 0xFFFFFF80 := by decide
/-- V-LS2. -/
theorem test_movWLoadPost_same_register : after [0x6115] (longs [(0x2000, 0x1234)] (regs [(1, 0x2000)]))
    (fun u => u.r 1) = some 0x1234 := by decide
/-- E8. -/
theorem test_movBLoadPost : after [0x6214] (longs [(0x2000, 0x80)] (regs [(1, 0x2000)]))
    (fun u => (u.r 2, u.r 1)) = some (0xFFFFFF80, 0x2001) := by decide
/-- E8. -/
theorem test_movLLoadPost : after [0x6216] (longs [(0x2000, 0x80000000)] (regs [(1, 0x2000)]))
    (fun u => (u.r 2, u.r 1)) = some (0x80000000, 0x2004) := by decide
/-- V-LS3. -/
theorem test_movLStorePre_same_register : after [0x2116] (regs [(1, 0x2004)])
    (fun u => (u.memRead .long 0x2000, u.r 1)) = some (0x2004, 0x2000) := by decide
/-- V-LS4. -/
theorem test_movLLoadDisp : after [0x521F] (longs [(0x203C, 0xDEADBEEF)] (regs [(1, 0x2000)]))
    (fun u => u.r 2) = some 0xDEADBEEF := by decide
/-- V-LS5. -/
theorem test_movWStoreDisp : after [0x811F] (regs [(0, 0xABCD1234), (1, 0x2000)])
    (fun u => u.memRead .long 0x201C) = some 0x12340000 := by decide
/-- V-LS6. -/
theorem test_movBLoadIdx_wraps : after [0x021C] (longs [(0x2000, 0x7F)] (regs [(0, 0xFFFFFFFF), (1, 0x2001)]))
    (fun u => u.r 2) = some 0x7F := by decide
/-- V-LS7. -/
theorem test_movLStoreIdx : after [0x0126] (regs [(0, 8), (1, 0x2000), (2, 0x01020304)])
    (fun u => (u.byteAt 0x2008, u.byteAt 0x200B)) = some (4, 1) := by decide
/-- V-LS8. -/
theorem test_movLLoadGbr : after [0xC6FF] (longs [(0x23FC, 0xCAFEBABE)] { start with gbr := 0x2000 })
    (fun u => u.r 0) = some 0xCAFEBABE := by decide
/-- V-LS9. -/
theorem test_movWPc : after [0x92FF] (longs [(0x1200, 0x7FFF0000)] start) (fun u => u.r 2) = some 0x7FFF := by decide
/-- V-LS10. -/
theorem test_mova : after [0xC700] start (fun u => u.r 0) = some 0x1004 := by decide
/-- V-LS11. -/
theorem test_misaligned_load : faultOf [0x6212] (regs [(1, 0x2002)]) = some .misalignedData := by decide
/-- V-LS12. -/
theorem test_misaligned_load_raises : after [0x6212] (regs [(1, 0x2002)] { start with params := { misaligned := .exception }, vbr := 0x8C000000 })
    (fun u => (u.expevt, u.tea, u.spc, u.pc)) = some (0x0E0, 0x2002, 0x1000, 0x8C000100) := by decide
/-- V-LS13. -/
theorem test_movuaL : after [0x41A9] (longs [(0x2000, 0x33221100), (0x2004, 0x44)] (regs [(1, 0x2001)]))
    (fun u => u.r 0) = some 0x44332211 := by decide
/-- R494 with ENDIAN = big. -/
theorem test_movuaL_big_endian : after [0x41A9] (longs [(0x2000, 0x00112233), (0x2004, 0x44000000)] (regs [(1, 0x2001)] { start with params := { endian := .big } }))
    (fun u => u.r 0) = some 0x11223344 := by decide
/-- V-LS14. -/
theorem test_movuaLPost_into_r0 : after [0x40E9] (longs [(0x2000, 0x55667788)] (regs [(0, 0x2000)]))
    (fun u => u.r 0) = some 0x55667788 := by decide
/-- V-LS15. -/
theorem test_movcoL_not_linked : after [0x0473] (longs [(0x2000, 7)] (regs [(0, 9), (4, 0x2000)]))
    (fun u => (u.t, u.memRead .long 0x2000)) = some (false, 7) := by decide
/-- R493. -/
theorem test_movcoL_linked : after [0x0473] (regs [(0, 9), (4, 0x2000)] { start with ldst := true })
    (fun u => (u.t, u.ldst, u.memRead .long 0x2000)) = some (true, false, 9) := by decide
/-- V-LS16. -/
theorem test_xtrct : after [0x211D] (regs [(1, 0x11223344)]) (fun u => u.r 1) = some 0x33441122 := by decide
/-- V-LS17. -/
theorem test_swapB : after [0x6218] (regs [(1, 0x11223344)]) (fun u => u.r 2) = some 0x11224433 := by decide

/-! ### Control transfers, system, exceptions, events (V-CT, V-X, V-R) -/

/-- V-CT1. -/
theorem test_ldcSr : after [0x410E] (regs [(1, 0xFFFFFFFF)]) (fun u => u.sr) = some 0x700083F3 := by decide
/-- V-CT2. -/
theorem test_ldcLSr_misaligned : faultOf [0x4F07] (regs [(15, 0x2FFE)]) = some .misalignedData := by decide
/-- V-CT3. -/
theorem test_stcLSr : after [0x4F03] (regs [(15, 0x3000)] { start with sr := 3 })
    (fun u => (u.memRead .long 0x2FFC, u.r 15)) = some (3, 0x2FFC) := by decide
/-- V-CT4. -/
theorem test_ldcBank : after [0x41BE] (regs [(1, 5)]) (fun u => (u.rBank 3, u.r 3)) = some (5, 0) := by decide
/-- R33: with bank 1 selected R3_BANK is B0[3]. -/
theorem test_ldcBank_bank_one_selected : after [0x41BE] (regs [(1, 5)] { start with sr := 0x60000000, params := { bankModel := .architectural } })
    (fun u => (u.rBank 3, u.r 3, Bank.read u.b0 3)) = some (5, 0, 5) := by decide
/-- V-CT5, second step. -/
theorem test_ldcLPr : after [0x4F26] (longs [(0x2FFC, 0x1234)] (regs [(15, 0x2FFC)]))
    (fun u => (u.pr, u.r 15)) = some (0x1234, 0x3000) := by decide
/-- V-CT6. -/
theorem test_ldcSr_user_mode : after [0x410E] (regs [(1, 0xFFFFFFFF)] { start with params := { privCheck := .on } })
    (fun u => (u.expevt, u.spc, u.ssr, u.sr, u.pc)) = some (0x180, 0x1000, 0, 0x70000000, 0x100) := by decide
/-- E7, first step. -/
theorem test_ldsMach : after [0x410A] (regs [(1, 0x89ABCDEF)] { start with mac := 0x1122334455667788 })
    (fun u => u.mac) = some 0x89ABCDEF55667788 := by decide
/-- V-X7. -/
theorem test_sets : after [0x0058] start (fun u => u.sr) = some 2 := by decide
/-- V-X1. -/
theorem test_trapa : after [0xC3FF] (regs [(15, 0x3000)] { start with vbr := 0x8C000000 })
    (fun u => (u.tra, u.expevt, u.spc, u.sgr, u.sr, u.pc)) = some (0x3FC, 0x160, 0x1002, 0x3000, 0x70000000, 0x8C000100) := by decide
/-- V-X2. -/
theorem test_undefined_word : after [0x0000] { start with vbr := 0x8C000000 }
    (fun u => (u.expevt, u.spc, u.ssr, u.sr, u.pc)) = some (0x180, 0x1000, 0, 0x70000000, 0x8C000100) := by decide
/-- V-X3. -/
theorem test_blocked : faultOf [0xC301] { start with sr := 0x10000000 } = some .blockedException := by decide
/-- V-X4. -/
theorem test_trapa_external : after [0xC301] { start with params := { trapEntry := .external } }
    (fun u => (u.report, u.pc, u.sr)) = some (some ⟨.trap 1, 0x160, 0x1002⟩, 0x1000, 0) := by decide
/-- V-X5. -/
theorem test_sleep : after [0x001B] start (fun u => (u.pc, u.sleeping)) = some (0x1002, true) := by decide
/-- V-X6. -/
theorem test_fpu : step (words [0xF00C] 0x1000 start) = .refused .fpuInstruction := rfl
/-- V-X9. -/
theorem test_ocbi_noop : after [0x0493] (longs [(0x2000, 0x5A5A5A5A)] (regs [(4, 0x2004)] { start with params := { ocbiModel := .noop } }))
    (fun u => u.memRead .long 0x2000) = some 0x5A5A5A5A := by decide
/-- V-X10: the line of 0x2004 is 0x2000 to 0x201F; each of its bytes is the byte drawn for it, whatever that is,
and the next byte is left alone. -/
theorem test_ocbi_line : lineBase 0x2004 = 0x2000 ∧ ∀ line : Memory, havocBytes {} 0 0x2000 32 [] = line →
    Memory.read line (0x2000 : Word).toNat = Config.drawByte 0 0x2000 ∧
    Memory.read line (0x201F : Word).toNat = Config.drawByte 0 0x201F ∧
    Memory.read line (0x2020 : Word).toNat = 0 :=
  ⟨by decide, fun _ h => h ▸ ⟨read_havocBytes 0 0x2000 rfl rfl 32 (by decide),
    read_havocBytes 0 0x2000 rfl rfl 32 (by decide), read_havocBytes_other {} 0 0x2000 0x2020 [] 32 (by decide)⟩⟩
/-- V-X11. -/
theorem test_interrupt : after [0x0009] { start with sr := 0x40, vbr := 0x8C000000, events := [.interrupt (.level 5 0x600)] }
    (fun u => (u.spc, u.ssr, u.sr, u.intevt, u.pc)) = some (0x1000, 0x40, 0x70000040, 0x600, 0x8C000600) := by decide
/-- V-X12. -/
theorem test_interrupt_masked : after [0x0009] { start with sr := 0x40, events := [.interrupt (.level 4 0x600)] }
    (fun u => (u.sr, u.pc)) = some (0x40, 0x1000) := by decide
/-- V-R1. -/
theorem test_reset_event : after [0x0009] (regs [(1, 5)] { start with sleeping := true, gbr := 7, events := [.reset] })
    (fun u => (u.pc, u.r 1, u.gbr, u.sleeping, u.byteAt 0x1000)) = some (0, 0, 0, false, 9) := by decide

/-- V-R1 from a fault mark: a scheduled step faults, and the reset after it discards the mark (R681). -/
theorem test_reset_after_a_fault :
    after [0xA006, 0xA006] { start with gbr := 7, events := [.engine, .reset] } (fun u => (u.mark, u.gbr, u.events)) =
      some (some (.faulted .slotIllegal), 7, [.reset]) ∧
    after [0xA006, 0xA006] { start with gbr := 7, mark := some (.faulted .slotIllegal), events := [.reset] }
      (fun u => (u.mark, u.gbr, u.pc, u.byteAt 0x1000)) = some (none, 0, 0, 6) := by decide

/-- 92 D46, 47 R586: a debugger may put the engine to sleep, and does not wake it. -/
theorem test_debug_sleeping : (start.debugWrite .sleeping 1).sleeping = true ∧
    ((start.debugWrite .sleeping 1).debugWrite .sleeping 0).sleeping = true := ⟨rfl, rfl⟩

/-- R687: a run ends at its stop address, or finally after SLEEP with nothing pending, before its bound. -/
theorem test_run_ends : (match run (some 0x1004) 9 (words [0x7101, 0x7101] 0x1000 start) with
    | .stopped u => some (u.pc, u.r 1)
    | _ => none) = some (0x1004, 2) ∧
    (match run none 9 (words [0x7101, 0x001B] 0x1000 start) with
    | .final u => some (u.pc, u.r 1)
    | _ => none) = some (0x1004, 1) := by decide


/-- The word `withFetchWord` places is the one the next step runs; for a delayed branch with a NOP in its slot. -/
theorem test_withFetchWord : step (State.reset.withFetchWord 16 0x7101) =
    .next ((State.reset.withFetchWord 16 0x7101).fresh.setR 1 1).advance := rfl
theorem test_withFetchWord_branch : (match step (State.reset.withFetchWord 16 0xA006) with
    | .next u => some u.pc
    | _ => none) = some 0x10 := by decide

/-! ## Witnesses: a state and operands that meet every hypothesis of an obligation, clause by clause -/

/-- The reset state, with words from PC (0) on. -/
def fresh (ws : List Half) (p : Params := {}) : State := words ws 0 { State.reset with params := p }

/-- User mode with the privilege check on. -/
def user : State := { start with params := { privCheck := .on } }

/-- Privileged mode with the privilege check on. -/
def system : State := { user with sr := 0x40000000 }

/-- `s` on a platform with the address map `port` (20 R92). -/
def onPort (port : List Region) (s : State := start) : State := { s with params := { s.params with port := port } }

/-- The port answers nothing from 0x2000 up to 0x2FFF. -/
def hole (s : State := start) : State := onPort [⟨0x2000, 0x1000, .unanswered, .unanswered⟩] s

/-- From 0x2000 up to 0x2FFF a ROM whose writes have no answer, then one that ignores writes, then an open bus, then
a device. -/
def board (s : State := start) : State :=
  onPort [⟨0x2000, 0x1000, .stored, .unanswered⟩, ⟨0x3000, 0x1000, .stored, .absorbed⟩,
    ⟨0x4000, 0x1000, .constant 0xFF, .absorbed⟩, ⟨0x5000, 0x1000, .device, .absorbed⟩] s

/-- A slot is being run: the branch stood at 0x0FFE. -/
def inSlot (s : State := start) : State := { s with ds := .pending 0x2000 ⟨0x0FFE, 0, 0⟩ }

theorem witness_ResetLeavesTheValuesTheSpecGives :
    ({ start with sleeping := true, events := [.reset, .engine] } : State).events = .reset :: [.engine] := rfl

theorem witness_EveryStepKeepsTheInvariant :
    (fresh [0x7101]).Inv ∧ ∃ u, step (fresh [0x7101]) = .next u := ⟨⟨rfl, rfl, rfl⟩, _, rfl⟩

theorem witness_DecodeInvertsEncode : (Instr.movLLoadDisp 15 1 2).wf = true := rfl

theorem witness_EveryWordDecodesToItsRowOnly :
    decode 0x521F = .ok (.movLLoadDisp 15 1 2) ∧ decode 0x8200 = .error .undefinedWord ∧
    (0x521F : Half) &&& (Instr.movLLoadDisp 15 1 2).row.1 = (Instr.movLLoadDisp 15 1 2).row.2 := by decide

theorem witness_StepRunsTheDecodedInstruction :
    (Fetches (fresh [0x7101]) 0x7101 ∧ Encodes 0x7101 (.addImm 1 1) ∧
      ∃ u, exec (.addImm 1 1) (fresh [0x7101]).fresh = .next u ∧ u.ds = .normal) ∧
    (Fetches ((fresh [0x6122]).setR 2 1) 0x6122 ∧ Encodes 0x6122 (.movLLoad 2 1)) ∧
    exec (.movLLoad 2 1) ((fresh [0x6122]).setR 2 1).fresh = .fault .misalignedData ∧
    Fetches (fresh [0xF00C]) 0xF00C ∧ Encodes 0xF00C (.fpuGroup 0x00C) ∧
    exec (.fpuGroup 0x00C) (fresh [0xF00C]).fresh = .refused .fpuInstruction :=
  ⟨⟨⟨rfl, rfl, rfl, rfl, ⟨rfl, rfl⟩, rfl⟩, rfl, _, rfl, rfl⟩, ⟨⟨rfl, rfl, rfl, rfl, ⟨rfl, rfl⟩, rfl⟩, rfl⟩, rfl,
    ⟨rfl, rfl, rfl, rfl, ⟨rfl, rfl⟩, rfl⟩, rfl, rfl⟩

/-- A pair `BRA` (d = 6) and `v`, from `s`, whose target is `t`. -/
def PairAt (s : State) (v : Half) (t : Word) (post : State → Prop) : Prop :=
  ∃ u, Fetches s 0xA006 ∧ Encodes 0xA006 (.bra 6) ∧ Branched (.bra 6) s u t ∧ SlotHolds u v ∧ post u

theorem witness_DelaySlotControllerRunsThePair :
    PairAt (fresh [0xA006, 0x0000]) 0x0000 16 (fun _ => decode 0x0000 = .error .undefinedWord) ∧
    PairAt (fresh [0xA006, 0xA006]) 0xA006 16 (fun _ => Encodes 0xA006 (.bra 6) ∧ SlotIllegalSet (.bra 6)) ∧
    PairAt (fresh [0xA006, 0xF00C]) 0xF00C 16 (fun _ => Encodes 0xF00C (.fpuGroup 0xC) ∧ FpuSet (.fpuGroup 0xC)) ∧
    PairAt (fresh [0xA006, 0xC700]) 0xC700 16 (fun u => Encodes 0xC700 (.mova 0) ∧ PcRelativeSet (.mova 0) ∧
      u.params.slotPcRel = .fault) :=
  ⟨⟨_, ⟨rfl, rfl, rfl, rfl, ⟨rfl, rfl⟩, rfl⟩, rfl, ⟨rfl, _, rfl⟩, ⟨rfl, rfl⟩, rfl⟩,
   ⟨_, ⟨rfl, rfl, rfl, rfl, ⟨rfl, rfl⟩, rfl⟩, rfl, ⟨rfl, _, rfl⟩, ⟨rfl, rfl⟩, rfl, 0, 6, 0, by simp⟩,
   ⟨_, ⟨rfl, rfl, rfl, rfl, ⟨rfl, rfl⟩, rfl⟩, rfl, ⟨rfl, _, rfl⟩, ⟨rfl, rfl⟩, rfl, 0xC, 0, by simp⟩,
   ⟨_, ⟨rfl, rfl, rfl, rfl, ⟨rfl, rfl⟩, rfl⟩, rfl, ⟨rfl, _, rfl⟩, ⟨rfl, rfl⟩, rfl, ⟨0, 0, by simp⟩, rfl⟩⟩

/-- `ADD #1,R1` in the slot ends in next; `MOV.L @R1,R2` with R1 = 1 ends in a fault or an exception. -/
theorem witness_DelaySlotControllerRunsThePair_ends :
    PairAt (fresh [0xA006, 0x7101]) 0x7101 16 (fun u => Encodes 0x7101 (.addImm 1 1) ∧
      ¬ SlotIllegalSet (.addImm 1 1) ∧ ¬ PcRelativeSet (.addImm 1 1) ∧
      ∃ x, exec (.addImm 1 1) { u with pc := 2 } = .next x ∧ x.ds = u.ds) ∧
    PairAt ((fresh [0xA006, 0x6212]).setR 1 1) 0x6212 16 (fun u => Encodes 0x6212 (.movLLoad 1 2) ∧
      ¬ SlotIllegalSet (.movLLoad 1 2) ∧ ¬ PcRelativeSet (.movLLoad 1 2) ∧
      exec (.movLLoad 1 2) { u with pc := 2 } = .fault .misalignedData) ∧
    PairAt ((fresh [0xA006, 0x6212] { misaligned := .exception }).setR 1 1) 0x6212 16 (fun u =>
      exec (.movLLoad 1 2) { u with pc := 2 } = takeException (.dataAddressErrorRead 1) { u with pc := 2 }) :=
  ⟨⟨_, ⟨rfl, rfl, rfl, rfl, ⟨rfl, rfl⟩, rfl⟩, rfl, ⟨rfl, _, rfl⟩, ⟨rfl, rfl⟩, rfl, by rintro ⟨d, e, n, h⟩; simp at h,
     by rintro ⟨d, n, h⟩; simp at h, _, rfl, rfl⟩,
   ⟨_, ⟨rfl, rfl, rfl, rfl, ⟨rfl, rfl⟩, rfl⟩, rfl, ⟨rfl, _, rfl⟩, ⟨rfl, rfl⟩, rfl, by rintro ⟨d, e, n, h⟩; simp at h,
     by rintro ⟨d, n, h⟩; simp at h, rfl⟩,
   ⟨_, ⟨rfl, rfl, rfl, rfl, ⟨rfl, rfl⟩, rfl⟩, rfl, ⟨rfl, _, rfl⟩, ⟨rfl, rfl⟩, rfl⟩⟩

theorem witness_PcRelativeInstructionInASlot :
    PairAt (fresh [0xA006, 0xD201]) 0xD201 16 (fun u => Encodes 0xD201 (.movLPc 1 2) ∧ u.params.slotPcRel = .fault) ∧
    PairAt (fresh [0xA006, 0xC7FF] { slotPcRel := .slotAddress }) 0xC7FF 16 (fun _ => Encodes 0xC7FF (.mova 0xFF)) ∧
    PairAt (fresh [0xA006, 0xD201] { slotPcRel := .slotAddress }) 0xD201 16 (fun u => Encodes 0xD201 (.movLPc 1 2) ∧
      Accessible u .read .long (((0 + 2 : Word) &&& 0xFFFFFFFC) + 4 + 4 * (1 : BitVec 8).setWidth 32)) ∧
    PairAt (fresh [0xA006, 0x9200] { slotPcRel := .slotAddress }) 0x9200 16 (fun u => Encodes 0x9200 (.movWPc 0 2) ∧
      Accessible u .read .word (0 + 6 + 2 * (0 : BitVec 8).setWidth 32)) :=
  ⟨⟨_, ⟨rfl, rfl, rfl, rfl, ⟨rfl, rfl⟩, rfl⟩, rfl, ⟨rfl, _, rfl⟩, ⟨rfl, rfl⟩, rfl, rfl⟩,
   ⟨_, ⟨rfl, rfl, rfl, rfl, ⟨rfl, rfl⟩, rfl⟩, rfl, ⟨rfl, _, rfl⟩, ⟨rfl, rfl⟩, rfl⟩,
   ⟨_, ⟨rfl, rfl, rfl, rfl, ⟨rfl, rfl⟩, rfl⟩, rfl, ⟨rfl, _, rfl⟩, ⟨rfl, rfl⟩, rfl, rfl, rfl⟩,
   ⟨_, ⟨rfl, rfl, rfl, rfl, ⟨rfl, rfl⟩, rfl⟩, rfl, ⟨rfl, _, rfl⟩, ⟨rfl, rfl⟩, rfl, rfl, rfl⟩⟩

/-- The last even address, the first odd one in both models, and an awake engine with no event. -/
theorem witness_FetchReadsTheWordAtPcOrRaises :
    Accessible start .read .word 0xFFFFFFFE ∧ ((1 : Word).toNat % 2 = 1 ∧ start.params.misaligned = .fault) ∧
    ((0xFFFFFFFF : Word).toNat % 2 = 1 ∧
      ({ start with params := { misaligned := .exception } } : State).params.misaligned = .exception) ∧
    (start.events = [] ∧ start.mark = none ∧ start.ds = .normal ∧ start.sleeping = false) ∧
    PairAt (fresh [0xA006, 0x7101]) 0x7101 16 (fun u => u.pc = 0) :=
  ⟨⟨rfl, rfl⟩, ⟨rfl, rfl⟩, ⟨rfl, rfl⟩, ⟨rfl, rfl, rfl, rfl⟩,
   _, ⟨rfl, rfl, rfl, rfl, ⟨rfl, rfl⟩, rfl⟩, rfl, ⟨rfl, _, rfl⟩, ⟨rfl, rfl⟩, rfl⟩

theorem witness_UndefinedWordsAreTheListedOnesAndRaise :
    undefinedWord 0x8 0x2 0x0 0x0 = true ∧ undefinedWord 0x8 0x1 0x0 0x0 = false ∧
    (Fetches (fresh [0x8200]) 0x8200 ∧ decode 0x8200 = .error .undefinedWord) ∧
    PairAt (fresh [0xA006, 0x8200]) 0x8200 16 (fun _ => decode 0x8200 = .error .undefinedWord) :=
  ⟨rfl, rfl, ⟨⟨rfl, rfl, rfl, rfl, ⟨rfl, rfl⟩, rfl⟩, rfl⟩,
   _, ⟨rfl, rfl, rfl, rfl, ⟨rfl, rfl⟩, rfl⟩, rfl, ⟨rfl, _, rfl⟩, ⟨rfl, rfl⟩, rfl⟩

theorem witness_FpuWordsAreRefused :
    Fetches (fresh [0xF00C]) 0xF00C ∧ Encodes 0xF00C (.fpuGroup 0xC) ∧ FpuSet (.fpuGroup 0xC) :=
  ⟨⟨rfl, rfl, rfl, rfl, ⟨rfl, rfl⟩, rfl⟩, rfl, 0xC, 0, by simp⟩

/-- Bank 1 selected: both bits set under the architectural model; not selected with RB alone, or under storage. -/
theorem witness_BanksFollowSelAndKeepTheirValues :
    let sel : State → Bool := fun s => s.params.bankModel = .architectural ∧ s.sr.getLsbD 30 = true ∧ s.sr.getLsbD 29 = true
    sel { start with sr := 0x60000000, params := { bankModel := .architectural } } = true ∧
    sel { start with sr := 0x20000000, params := { bankModel := .architectural } } = false ∧
    sel { start with sr := 0x60000000 } = false := ⟨rfl, rfl, rfl⟩

theorem witness_MemReadAssemblesBytesInTheByteOrder :
    start.params.endian = .little ∧ ({ start with params := { endian := .big } } : State).params.endian = .big ∧
    Keeps (longs [(0xFFFFFFFC, 1)] start) 0xFFFFFFFD 4 ∧ Keeps board 0x1FFC 4 ∧ board.ram 0x1FFD 4 = false ∧
    ∃ u, exec (.add 1 2) start = .next u :=
  ⟨rfl, rfl, ⟨rfl, rfl⟩, ⟨rfl, rfl⟩, rfl, _, rfl⟩

theorem witness_BytesOfAStoredLongAreSeenAtEveryWidth :
    start.params.endian = .little ∧ Keeps (longs [(0x2000, 7)] start) 0x2000 4 := ⟨rfl, rfl, rfl⟩

theorem witness_MisalignedAccessesFaultOrRaise :
    Width.aligned .long 0xFFFFFFFE = false ∧ Width.aligned .word 0xFFFFFFFF = false ∧ start.params.misaligned = .fault ∧
    ({ start with params := { misaligned := .exception } } : State).params.misaligned = .exception := by decide

/-- The map's two ends and the address past them, in each direction; a byte that reads as the bus; a write absorbed. -/
theorem witness_PortMapDecidesEachAccess :
    (∀ h ∈ ([⟨0x2000, 0x1000, .stored, .unanswered⟩] : List Region), Region.covers h 0x3000 = false) ∧
    Region.covers ⟨0x3000, 0x1000, .stored, .absorbed⟩ 0x3000 = true ∧ Region.covers ⟨0x2000, 0x1000, .stored, .unanswered⟩ 0x2FFF = true ∧
    Keeps board 0x1FFF 1 ∧ portReads board.params 0x4FFF = .constant 0xFF ∧ portWrites board.params 0x3000 ≠ .stored ∧
    (∀ k, k < Width.bytes .long → portWrites board.params (0x2FFE + BitVec.ofNat 32 k) ≠ .stored) ∧
    (Width.aligned .word 0x2000 = true ∧ 1 < Width.bytes .word ∧ portWrites board.params (0x2000 + BitVec.ofNat 32 1) = .unanswered ∧
      board.answers .read 0x2000 2 = true) ∧
    portReads hole.params (0x1FFC + BitVec.ofNat 32 4) = .unanswered ∧ portReads hole.params (0x2FFE + BitVec.ofNat 32 1) = .unanswered ∧
    portReads hole.params 0x3000 = .stored := ⟨by decide, by decide, by decide, ⟨rfl, rfl⟩, by decide⟩

theorem witness_ByteOperationsInMemory :
    ((¬ Modifiable hole 0x2000 ∧ ¬ Modifiable hole 0x2FFF) ∧ ¬ Modifiable board 0x2000 ∧ Modifiable board 0x3000) ∧
    (hole.answers .read 0x2000 1 = false ∧ board.answers .read 0x2000 1 = true) ∧ Modifiable hole 0x1FFF ∧ Keeps hole 0x1FFF 1 := by
  unfold Modifiable; exact ⟨by decide, by decide, by decide, rfl, rfl⟩

/-- SHAD, SHLD: a left shift, the two ends of the right count, and the count 0 of a negative register. -/
theorem witness_MultiBitAndDynamicShiftsWriteNoFlag :
    ((31 : Word).msb = false ∧ (31 : Word).toNat % 32 = 31) ∧ ((0xFFFFFFE0 : Word).msb = true ∧ (0xFFFFFFE0 : Word).toNat % 32 = 0) ∧
    ((0x80000001 : Word).msb = true ∧ (0x80000001 : Word).toNat % 32 ≠ 0) ∧
    ((0xFFFFFFFF : Word).msb = true ∧ (0xFFFFFFFF : Word).toNat % 32 = 31) := by decide

theorem witness_DivisionInitialisationAndStep :
    (start.q = false ∧ start.m = false) ∧
    (State.q { start with sr := 0x200 } = false ∧ State.m { start with sr := 0x200 } = true) ∧
    (State.q { start with sr := 0x100 } = true ∧ State.m { start with sr := 0x100 } = false) ∧
    (State.q { start with sr := 0x300 } = true ∧ State.m { start with sr := 0x300 } = true) := by decide

/-- For MAC.L and MAC.W: both operands there (m = n and not), each misaligned, each unanswered, S 0 and 1, both
saturation modes. -/
theorem witness_MacLongAndWordAccumulate :
    (Accessible (regs [(1, 0x1FF8)] hole) .read .long 0x1FF8 ∧ Accessible (regs [(1, 0x1FF8)] hole) .read .long (0x1FF8 + 4)) ∧
    (Accessible (regs [(1, 0x1FFC)] hole) .read .long 0x1FFC ∧ Width.aligned .long (0x1FFC + 4) = true ∧
      hole.answers .read (0x1FFC + 4) 4 = false) ∧
    Width.aligned .long 0x1FFE = false ∧ (Width.aligned .word 0x1FFE = true ∧ hole.answers .read 0x1FFE 2 = true) ∧
    (Width.aligned .word (0x1FFE + 2) = true ∧ hole.answers .read (0x1FFE + 2) 2 = false) ∧ Width.aligned .word 0x1FFF = false ∧
    start.s = false ∧ State.s { start with sr := 2 } = true ∧ start.params.macwSat = .doc64 ∧
    ({ start with params := { macwSat := .maclOnly } } : State).params.macwSat = .maclOnly := by
  refine ⟨⟨⟨rfl, rfl⟩, rfl, rfl⟩, ⟨⟨rfl, rfl⟩, rfl, rfl⟩, ?_⟩; decide

/-- A privileged instruction is permitted with the check off or in privileged mode, and not in user mode. -/
theorem witness_permitted : Permitted start ∧ Permitted system ∧ ¬ Permitted user ∧ user.ds = .normal :=
  ⟨.inl rfl, .inr rfl, fun h => h.elim nofun nofun, rfl⟩

theorem witness_ReturnFromExceptionRestoresSr : Permitted system ∧ ¬ Permitted user ∧ user.ds = .normal :=
  ⟨witness_permitted.2.1, witness_permitted.2.2⟩

/-- An access at the last long, one the port does not answer, and a misaligned one. -/
theorem witness_accesses : Accessible start .read .byte 0xFFFFFFFF ∧ Accessible start .read .word 0xFFFFFFFE ∧
    Accessible start .read .long 0xFFFFFFFC ∧ Width.aligned .word 0xFFFFFFFD = false ∧ Width.aligned .long 0xFFFFFFFE = false ∧
    (Width.aligned .byte 0x2FFF = true ∧ hole.answers .read 0x2FFF 1 = false) ∧
    (Width.aligned .word 0x2FFE = true ∧ hole.answers .read 0x2FFE 2 = false) ∧
    (Width.aligned .long 0x2000 = true ∧ hole.answers .read 0x2000 4 = false) ∧ Keeps start 0xFFFFFFFF 4 :=
  ⟨⟨rfl, rfl⟩, ⟨rfl, rfl⟩, ⟨rfl, rfl⟩, by decide, by decide, by decide, by decide, by decide, rfl, rfl⟩

theorem witness_PcRelativeLoads :
    Accessible start .read .word (start.pc + 4 + 2 * (0xFF : BitVec 8).setWidth 32) ∧
    Accessible start .read .long ((start.pc &&& 0xFFFFFFFC) + 4 + 4 * (0xFF : BitVec 8).setWidth 32) ∧
    Width.aligned .word (({ start with pc := 0x1001 } : State).pc + 4 + 2 * (0 : BitVec 8).setWidth 32) = false ∧
    (let s : State := { hole with pc := 0x1FFC }
     (Width.aligned .word (s.pc + 4 + 2 * (0 : BitVec 8).setWidth 32) = true ∧
       s.answers .read (s.pc + 4 + 2 * (0 : BitVec 8).setWidth 32) 2 = false) ∧
     s.answers .read ((s.pc &&& 0xFFFFFFFC) + 4 + 4 * (0 : BitVec 8).setWidth 32) 4 = false) :=
  ⟨⟨rfl, rfl⟩, ⟨rfl, rfl⟩, by decide, by decide⟩

theorem witness_StoresReachOnlyTheirBytes :
    Accessible (regs [(1, 0x2000)]) .write .long ((regs [(1, 0x2000)]).r 1 + 4 * (0xF : BitVec 4).setWidth 32) ∧
    Width.aligned .long ((regs [(1, 0x2001)]).r 1) = false ∧
    (Width.aligned .word ((regs [(1, 0x2000)]).r 1) = true ∧ (regs [(1, 0x2000)] hole).answers .write 0x2000 2 = false) ∧
    Keeps (regs [(1, 0x2000)]) 0x2000 2 := ⟨⟨rfl, rfl⟩, by decide, by decide, rfl, rfl⟩

theorem witness_LoadsWriteOnlyTheDestination :
    Accessible (regs [(1, 0x2000)]) .read .word ((regs [(1, 0x2000)]).r 1 + (regs [(1, 0x2000)]).r 0) ∧
    Width.aligned .word ((regs [(1, 0x2001)]).r 1) = false ∧
    (Width.aligned .byte ((regs [(1, 0x2000)]).r 1) = true ∧ (regs [(1, 0x2000)] hole).answers .read 0x2000 1 = false) :=
  ⟨⟨rfl, rfl⟩, by decide, by decide⟩

theorem witness_PreDecrementStoresAndPostIncrementLoads :
    (Accessible (regs [(1, 0x2000)]) .write .long ((regs [(1, 0x2000)]).r 1 - BitVec.ofNat 32 (Width.bytes .long)) ∧
      Keeps (regs [(1, 0x2000)]) ((regs [(1, 0x2000)]).r 1 - BitVec.ofNat 32 (Width.bytes .long)) (Width.bytes .long)) ∧
    Accessible start .write .byte (start.r 1 - BitVec.ofNat 32 (Width.bytes .byte)) ∧
    Accessible (regs [(1, 0x2000)]) .read .word ((regs [(1, 0x2000)]).r 1) ∧
    Width.aligned .long ((regs [(1, 0x2002)]).r 1) = false ∧ (1 : Reg) ≠ 2 :=
  ⟨⟨⟨rfl, rfl⟩, rfl, rfl⟩, ⟨rfl, rfl⟩, ⟨rfl, rfl⟩, by decide, by decide⟩

theorem witness_LinkedUnalignedAndCacheAllocatingTransfers :
    (Accessible start .write .long (start.r 4) ∧ Accessible start .read .long (start.r 4) ∧ Keeps start (start.r 4) 4 ∧
      State.ldst { start with ldst := true } = true) ∧ start.ldst = false ∧
    (hole.answers .read 0x1FFD 4 = false ∧ hole.answers .read 0x1FFC 4 = true) ∧ start.params.endian = .little ∧
    ({ start with params := { endian := .big } } : State).params.endian = .big ∧ (1 : Reg) ≠ 0 :=
  ⟨⟨⟨rfl, rfl⟩, ⟨rfl, rfl⟩, ⟨rfl, rfl⟩, rfl⟩, rfl, by decide, rfl, rfl, by decide⟩

theorem witness_LoadsOfSrStoreTheMaskedValue :
    Permitted system ∧ Accessible system .read .long (system.r 1) ∧ ¬ Permitted user ∧ user.ds = .normal :=
  ⟨witness_permitted.2.1, ⟨rfl, rfl⟩, witness_permitted.2.2⟩

theorem witness_LoadsOfControlRegistersFromARegister :
    Permitted system ∧ (0 : BankReg) ≠ 7 ∧ ¬ Permitted user ∧ user.ds = .normal ∧
    Instr.ldcBank 1 7 ∈ [Instr.ldcVbr 1, .ldcSgr 1, .ldcSsr 1, .ldcSpc 1, .ldcDbr 1, .ldcBank 1 7] :=
  ⟨witness_permitted.2.1, by decide, witness_permitted.2.2.1, rfl, by simp⟩

theorem witness_PopsIntoControlRegisters :
    Permitted system ∧ Accessible system .read .long (system.r 1) ∧ ¬ Permitted user ∧ user.ds = .normal ∧
    Width.aligned .long ((regs [(1, 0x2FFE)]).r 1) = false ∧
    Instr.ldcLBank 1 7 ∈ [Instr.ldcLVbr 1, .ldcLSgr 1, .ldcLSsr 1, .ldcLSpc 1, .ldcLDbr 1, .ldcLBank 1 7] :=
  ⟨witness_permitted.2.1, ⟨rfl, rfl⟩, witness_permitted.2.2.1, rfl, by decide, by simp⟩

theorem witness_LoadsOfSystemRegisters :
    Accessible (regs [(1, 0x2FFC)]) .read .long ((regs [(1, 0x2FFC)]).r 1) ∧ Width.aligned .long ((regs [(1, 0x2FFE)]).r 1) = false ∧
    (Width.aligned .long 0x2FFC = true ∧ hole.answers .read 0x2FFC 4 = false) := ⟨⟨rfl, rfl⟩, by decide, by decide⟩

theorem witness_StoresOfControlRegistersToARegister :
    Permitted system ∧ ¬ Permitted user ∧ user.ds = .normal ∧
    Instr.stcSr 1 ∈ [Instr.stcSr 1, .stcVbr 1, .stcSgr 1, .stcSsr 1, .stcSpc 1, .stcDbr 1, .stcBank 7 1] :=
  ⟨witness_permitted.2.1, witness_permitted.2.2.1, rfl, by simp⟩

theorem witness_PushesOfControlRegisters :
    Permitted system ∧ Accessible system .write .long (system.r 1 - BitVec.ofNat 32 (Width.bytes .long)) ∧ ¬ Permitted user ∧
    user.ds = .normal ∧ Keeps system (system.r 1 - BitVec.ofNat 32 (Width.bytes .long)) (Width.bytes .long) ∧ Width.aligned .long ((regs [(1, 0x2FFE)]).r 1 - 4) = false ∧
    Instr.stcLSr 1 ∈ [Instr.stcLSr 1, .stcLVbr 1, .stcLSgr 1, .stcLSsr 1, .stcLSpc 1, .stcLDbr 1, .stcLBank 7 1] :=
  ⟨witness_permitted.2.1, ⟨rfl, rfl⟩, witness_permitted.2.2.1, rfl, ⟨rfl, rfl⟩, by decide, by simp⟩

theorem witness_StoresAndPushesOfSystemRegisters :
    Accessible start .write .long (start.r 1 - BitVec.ofNat 32 (Width.bytes .long)) ∧
    Keeps start (start.r 1 - BitVec.ofNat 32 (Width.bytes .long)) (Width.bytes .long) ∧
    Width.aligned .long ((regs [(1, 0x2FFE)]).r 1 - BitVec.ofNat 32 (Width.bytes .long)) = false :=
  ⟨⟨rfl, rfl⟩, ⟨rfl, rfl⟩, by decide⟩

theorem witness_ControlRegisterRoundTrips :
    Permitted system ∧ start.params.privCheck = .off ∧ Keeps start (start.r 15 - 4) 4 ∧ Width.aligned .long (start.r 15 - 4) = true :=
  ⟨witness_permitted.2.1, rfl, ⟨rfl, rfl⟩, rfl⟩

theorem witness_NoOperationsOnlyAdvancePc : Permitted system := witness_permitted.2.1

/-- The first and last byte of the line, and the two lines at the hole's edge. -/
theorem witness_OcbiDrawsItsLineOrDoesNothing :
    start.params.ocbiModel = .havoc ∧ ({ start with params := { ocbiModel := .noop } } : State).params.ocbiModel = .noop ∧
    hole.answers .write 0x1FE0 32 = true ∧ hole.answers .write 0x2000 32 = false ∧ Memory.wf start.mem = true ∧
    start.isRam 0x1FE0 = true ∧ board.answers .write 0x3000 32 = true ∧ board.isRam 0x3000 = false ∧
    ((0x1FE0 : Word) - 0x1FE0).toNat < 32 ∧ ((0x1FFF : Word) - 0x1FE0).toNat < 32 := by decide

theorem witness_TrapTakesTheTrapException :
    (start.ds = .normal ∧ start.params.trapEntry = .reference ∧ start.bl = false) ∧ State.bl { start with sr := 0x10000000 } = true ∧
    ({ start with params := { trapEntry := .external } } : State).params.trapEntry = .external := by decide

/-- A sleeping engine: no event, and the two events that wake it. -/
theorem witness_SleepHoldsTheEngine :
    Permitted system ∧ (¬ Permitted user ∧ user.ds = .normal) ∧
    (State.sleeping { start with sleeping := true } = true ∧ start.events = [] ∧ start.mark = none ∧ start.ds = .normal) ∧
    (∃ u, step { start with sleeping := true, events := [.reset] } = .next u ∧ u.sleeping = false) ∧
    ∃ u, step { start with sleeping := true, events := [.interrupt .nmi] } = .next u ∧ u.sleeping = false :=
  ⟨witness_permitted.2.1, witness_permitted.2.2, by decide, ⟨_, rfl, rfl⟩, _, rfl, rfl⟩

/-- Level 1 above mask 0, level 15 above mask 14; blocked with BL = 1. -/
theorem witness_ExceptionEntryAndBlocking :
    (start.ds = .normal ∧ start.params.trapEntry = .reference) ∧ start.bl = false ∧
    State.bl { start with sr := 0x10000000 } = true ∧ start.accepts (.level 1 0x600) = true ∧
    State.accepts { start with sr := 0xE0 } (.level 15 0x600) = true ∧ State.accepts { start with sr := 0xF0 } .nmi = true := by
  decide

theorem witness_ExternalEntryReportsAndWritesNothing :
    let s : State := { start with params := { trapEntry := .external } }
    s.params.trapEntry = .external ∧ s.ds = .normal ∧
    ∃ t undo, (inSlot s).ds = .pending t undo ∧ (inSlot s).params.trapEntry = .external :=
  ⟨rfl, rfl, _, _, rfl, rfl⟩

/-- Level 5 above mask 4 with BL = 0, level 4 not above it, and NMI with BL = 1. -/
theorem witness_InterruptsAreTakenBetweenStepsAboveTheMask :
    (∃ s : State, s.events = [.interrupt (.level 5 0x600)] ∧ (s.mark = none ∧ s.bl = false) ∧ (s.sr.extractLsb' 4 4).toNat < (5 : BitVec 4).toNat) ∧
    (∃ s : State, s.events = [.interrupt (.level 4 0x600)] ∧ ¬ (s.sr.extractLsb' 4 4).toNat < (4 : BitVec 4).toNat) ∧
    ∃ s : State, s.events = [.interrupt .nmi] ∧ s.bl = true :=
  ⟨⟨{ start with sr := 0x40, events := [.interrupt (.level 5 0x600)] }, rfl, ⟨rfl, rfl⟩, by decide⟩,
   ⟨{ start with sr := 0x40, events := [.interrupt (.level 4 0x600)] }, rfl, by decide⟩,
   { start with sr := 0x10000000, events := [.interrupt .nmi] }, rfl, rfl⟩

theorem witness_PrivilegedInstructionsTrapInUserMode :
    (privilegedInstr .rte = true ∧ privilegedInstr (.stcBank 7 1) = true) ∧
    (user.params.privCheck = .on ∧ user.md = false ∧ user.ds = .normal) ∧
    (∃ t undo, (inSlot user).ds = .pending t undo ∧ (inSlot user).md = false) ∧
    system.md = true ∧ ∃ u, exec (.stcBank 7 1) { system with params := { system.params with privCheck := .on } } = .next u :=
  ⟨⟨rfl, rfl⟩, ⟨rfl, rfl, rfl⟩, ⟨_, _, rfl, rfl⟩, rfl, _, rfl⟩

/-- One step that stays confined and one that enters an exception. -/
theorem witness_OnlyAnExceptionEntryLeavesUserMode :
    (let s := fresh [0x7101] { privCheck := .on }
     s.Inv ∧ s.events = [] ∧ s.params.privCheck = .on ∧ s.md = false ∧ ∃ u, step s = .next u ∧ u.md = false) ∧
    let s := fresh [0x001B] { privCheck := .on }
    s.Inv ∧ s.events = [] ∧ s.params.privCheck = .on ∧ s.md = false ∧ ∃ u, step s = .next u ∧ u.md = true :=
  ⟨⟨⟨rfl, rfl, rfl⟩, rfl, rfl, rfl, _, rfl, rfl⟩, ⟨rfl, rfl, rfl⟩, rfl, rfl, rfl, _, rfl, rfl⟩

theorem witness_FlagsChangeOnlyThroughTheirWriters :
    start.ds = .normal ∧ (∃ u, exec (.add 1 2) start = .next u) ∧ writesT (.add 1 2) = false ∧ writesS (.add 1 2) = false ∧
    writesQ (.add 1 2) = false ∧ writesM (.div1 1 2) = false := ⟨rfl, ⟨_, rfl⟩, rfl, rfl, rfl, rfl⟩

theorem witness_MemoryChangesOnlyThroughTheStores :
    (∃ u, exec (.tstB 1) start = .next u) ∧ writesMemory (.tstB 1) = false := ⟨⟨_, rfl⟩, rfl⟩

theorem witness_TrapThenReturnResumesAfterTheTrap :
    start.Inv ∧ start.params.trapEntry = .reference ∧ start.bl = false := ⟨⟨rfl, rfl, rfl⟩, rfl, rfl⟩

/-- Labels at the two ends of each field's range and just past them. -/
theorem witness_LabelFieldsReachTheirLabels :
    labelField8 0x1000 0x1102 = .ok 0x7F ∧ labelField8 0x1000 0x1104 = .error .outOfRange ∧
    labelField12 0x10000 0xF004 = .ok 0x800 ∧ labelField12 0x10000 0xF002 = .error .outOfRange ∧
    literalWordField 0x1000 0x1202 = .ok 0xFF ∧ literalWordField 0x1000 0x1204 = .error .outOfRange ∧
    literalLongField 0x1002 0x1400 = .ok 0xFF ∧ literalLongField 0x1002 0x1404 = .error .outOfRange := by decide

/-- A scheduled step that faults, is refused, or goes on; a marked engine before each kind of event. -/
theorem witness_MarksStayUntilAResetAndEndRuns :
    (let s : State := { fresh [0xA006, 0xA006] with events := [.engine] }
     s.events = .engine :: [] ∧ s.mark = none ∧ engineStep { s with events := [] } = .fault .slotIllegal) ∧
    engineStep (fresh [0xF00C]) = .refused .fpuInstruction ∧ (∃ u, engineStep (fresh [0x7101]) = .next u) ∧
    (let s : State := { start with mark := some (.faulted .slotIllegal), events := [.reset] }
     s.mark = some (.faulted .slotIllegal) ∧ s.events = .reset :: []) ∧
    Event.debugWrite .pc 4 ≠ .reset ∧ (∀ target v, Event.interrupt .nmi ≠ .debugWrite target v) ∧
    (fresh [0x7101]).events = [] :=
  ⟨⟨rfl, rfl, rfl⟩, rfl, ⟨_, rfl⟩, ⟨rfl, rfl⟩, nofun, nofun, rfl⟩

/-- One run for each end, and one that goes on. -/
theorem witness_MarksStayUntilAResetAndEndRuns_runs :
    run none 2 (fresh [0x001B]) = .final { fresh [0x001B] with pc := 2, sleeping := true, ticks := 1 } ∧
    (∀ offer, Event.interrupt offer ∉ (fresh []).events) ∧
    ({ start with mark := some (.refused .fpuInstruction) } : State).mark ≠ none ∧
    (start.sleeping ≠ true ∧ some start.pc = some 0x1000 ∧ some start.pc ≠ none) ∧
    (∃ u, step (fresh [0x7101]) = .next u) ∧ step (fresh [0xA006, 0xA006]) = .fault .slotIllegal ∧
    step (fresh [0xF00C]) = .refused .fpuInstruction :=
  ⟨rfl, nofun, nofun, ⟨by decide, rfl, nofun⟩, ⟨_, rfl⟩, rfl, rfl⟩


/-! ## The port's address map (20 R92) -/

/-- `MOV.L R2,@R1` into a ROM with no answer to a write, and into one that ignores it. -/
theorem test_store_to_rom : faultOf [0x2122] (regs [(1, 0x2000), (2, 5)] board) = some .portNoAnswer ∧
    after [0x2122] (regs [(1, 0x3000), (2, 5)] board) (fun u => (u.memRead .long 0x3000, u.pc)) = some (0, 0x1002) := by decide

/-- `MOV.L @R1,R2` from the open bus. -/
theorem test_load_from_the_bus : after [0x6212] (regs [(1, 0x4000)] board) (fun u => u.r 2) = some 0xFFFFFFFF := by decide

/-- A device's byte is the free value of the step, whatever that is. -/
theorem test_device_byte : board.byteAt 0x5000 = Config.deviceByte start.ticks 0x5000 ∧
    exec (.movBLoad 1 2) (regs [(1, 0x5000)] board) = .next ((regs [(1, 0x5000)] board).setR 2
      (((((Config.deviceByte 0 0x5000).setWidth 32).setWidth 8).signExtend 32))).advance := ⟨rfl, rfl⟩

end Sys2Proof.Tests
end

section
/-! The step of an awake engine whose fetched word decodes (00 R19). -/

namespace Sys2Proof.Machine

/-- R19's fetch and decode, said once: what is left of the step is running the decoded instruction. -/
theorem step_of_encodes {s : State} {w : Half} {i : Instr} (hf : Fetches s w) (he : Encodes w i) :
    step s = runInstr i s.fresh :=
  (step_of_fetches hf).trans (runWord_of_decode he s.fresh)

/-- Settles O7: the step is the run of the decoded instruction, which ends as `exec` does unless that leaves
DS pending. -/
theorem stepRunsTheDecodedInstruction : Obligations.StepRunsTheDecodedInstruction := by
  intro s w i hf he
  rw [step_of_encodes hf he]
  refine ⟨?next, ?fault, ?refused⟩
  case next => exact fun u hu hds => runInstr_normal hu hds
  case fault => exact fun f h => runInstr_fault h
  case refused => exact fun r h => runInstr_refused h

end Sys2Proof.Machine
end

section
/-! Every step keeps the invariant (10 R35, R37, R49; 20 R92). Inside a pair DS is pending, and an exception
of the slot brings back the SR before the branch (44 R405), so what the instructions keep there is `Sound`. -/

namespace Sys2Proof.Machine

variable {s u : State}

/-! ## The reserved bits of SR -/

/-- A masked value has no reserved bit (R37). -/
theorem and_srMask_reserved (v : Word) : v &&& srMask &&& ~~~srMask = 0 := by
  rw [BitVec.and_assoc, show srMask &&& ~~~srMask = 0#32 by decide]
  exact BitVec.and_zero

/-- MD, RB and BL, which entry sets, are no reserved bits (R35; 60 R622). -/
theorem or_entryBits_reserved {v : Word} (h : v &&& ~~~srMask = 0) : (v ||| entryBits) &&& ~~~srMask = 0 := by
  rw [BitVec.and_or_distrib_right, h, show entryBits &&& ~~~srMask = 0#32 by decide]
  rfl

/-! ## Updates that keep the invariant -/

/-- The invariant is about memory, SR and DS only. -/
theorem State.Inv.congr (h : s.Inv) (hm : u.mem = s.mem) (hsr : u.sr = s.sr) (hds : u.ds = s.ds) : u.Inv :=
  ⟨hm ▸ h.memory, hsr ▸ h.status, hds ▸ h.slot⟩

theorem State.Inv.setSr (h : s.Inv) (v : Word) : (s.setSr v).Inv := ⟨h.memory, and_srMask_reserved v, h.slot⟩

theorem State.Inv.setByte (h : s.Inv) (a : Word) (b : Byte) : (s.setByte a b).Inv :=
  ⟨State.setByte_wf h.memory a b, h.status, h.slot⟩

/-- Entry of an exception or an interrupt (60 R622). -/
theorem State.Inv.enterVector (h : s.Inv) (savedPc offset : Word) : (s.enterVector savedPc offset).Inv :=
  ⟨h.memory, or_entryBits_reserved h.status, h.slot⟩

theorem State.Inv.recordCause (h : s.Inv) (e : Exc) : (s.recordCause e).Inv := by cases e <;> exact h.congr rfl rfl rfl

/-! ## Inside a pair -/

/-- What holds inside a step, in a slot and outside one: the state itself and the state an exception would return
to (44 R405) have the invariant's memory and SR. -/
structure State.Sound (s : State) : Prop where
  memory : Memory.wf s.mem = true
  status : s.sr &&& ~~~srMask = 0
  undone : s.undoBranch.Inv

theorem State.Inv.sound (h : s.Inv) : s.Sound :=
  ⟨h.memory, h.status, (State.undoBranch_normal h.slot).symm ▸ h⟩

/-- Outside a slot nothing is to be undone. -/
theorem State.Sound.inv (h : s.Sound) (hds : s.ds = .normal) : s.Inv := ⟨h.memory, h.status, hds⟩

/-- In a slot, what is to be undone is the branch's. -/
theorem State.Sound.of_pending {t : Word} {b : BranchUndo} (hm : Memory.wf s.mem = true) (hsr : s.sr &&& ~~~srMask = 0)
    (hds : s.ds = .pending t b) (hb : b.sr &&& ~~~srMask = 0) : s.Sound :=
  ⟨hm, hsr, (State.undoBranch_pending hds).symm ▸ ⟨hm, hb, rfl⟩⟩

/-- The SR an exception in a slot brings back has no reserved bit. -/
theorem State.Sound.undo_status {t : Word} {b : BranchUndo} (h : s.Sound) (hds : s.ds = .pending t b) :
    b.sr &&& ~~~srMask = 0 := by
  have hsr := h.undone.status
  rwa [State.undoBranch_pending hds] at hsr

/-- Memory and SR may change within their rules when DS does not. -/
theorem State.Sound.of_same_ds (h : s.Sound) (hm : Memory.wf u.mem = true) (hsr : u.sr &&& ~~~srMask = 0)
    (hds : u.ds = s.ds) : u.Sound := by
  cases hs : s.ds with
  | normal => exact (⟨hm, hsr, hds.trans hs⟩ : u.Inv).sound
  | pending t b => exact .of_pending hm hsr (hds.trans hs) (h.undo_status hs)

/-- PC moves to the slot. -/
theorem State.Sound.pc (h : s.Sound) (a : Word) : State.Sound { s with pc := a } :=
  h.of_same_ds h.memory h.status rfl

/-- Taking an exception, in a slot or outside one, leaves the invariant (60 R621, R622; 44 R405). -/
theorem takeException_inv {e : Exc} (h : s.Sound) (hu : takeException e s = .next u) : u.Inv := by
  rcases takeException_next hu with ⟨_, rfl⟩ | ⟨_, _, rfl⟩
  · exact h.undone.congr rfl rfl rfl
  · exact (h.undone.recordCause e).enterVector _ _

/-- A delayed branch keeps the SR it started from for the undoing, and RTE masks the SR it restores (44 R401,
R421). -/
theorem Delays.sound {i : Instr} (h : s.Sound) (hd : Delays i s u) : u.Sound := by
  obtain ⟨_, ⟨t, hu⟩, hsr⟩ := hd
  have hmem : Memory.wf u.mem = true := by rw [hu]; exact h.memory
  have hds : u.ds = .pending t ⟨s.pc, s.pr, s.sr⟩ := by rw [hu]
  refine .of_pending hmem ?_ hds h.status
  rcases hsr with hsr | ⟨_, hsr⟩
  · rw [hsr]; exact h.status
  · rw [hsr]; exact and_srMask_reserved _

/-- Executing an instruction, in a slot or outside one. -/
theorem exec_sound {i : Instr} (h : s.Sound) (hu : exec i s = .next u) : u.Sound := by
  rcases exec_next hu with ⟨e, hu⟩ | hk | hd
  · exact (takeException_inv h hu).sound
  · exact h.of_same_ds (hk.wf h.memory) (hk.masked h.status) hk.slot
  · exact hd.sound h

/-! ## The step -/

/-- The controller ends the pair with DS Normal (44 R402, R405). -/
theorem runSlot_inv (h : s.Sound) (hu : runSlot s = .next u) : u.Inv := by
  rcases runSlot_next hu with ⟨_, _, x, _, _, _, _, _, hx, hends⟩ | ⟨_, _, hu⟩
  · have hsound : x.Sound := exec_sound (h.pc _) hx
    rcases hends with ⟨_, _, _, rfl⟩ | ⟨hds, rfl⟩
    · exact ⟨hsound.memory, hsound.status, rfl⟩
    · exact hsound.inv hds
  · exact takeException_inv h hu

theorem runInstr_inv {i : Instr} (h : s.Inv) (hu : runInstr i s = .next u) : u.Inv := by
  rcases runInstr_next hu with ⟨hu, hds⟩ | ⟨b, _, _, hb, _, hu⟩
  · exact (exec_sound h.sound hu).inv hds
  · exact runSlot_inv (exec_sound h.sound hb) hu

theorem runWord_inv {w : Half} (h : s.Inv) (hu : runWord w s = .next u) : u.Inv := by
  unfold runWord at hu
  split at hu
  · exact takeException_inv h.sound hu
  · exact runInstr_inv h hu

/-- A step of the engine (00 R19). -/
theorem engineStep_inv (h : s.Inv) (hu : engineStep s = .next u) : u.Inv := by
  have hfresh : s.fresh.Inv := h.congr rfl rfl rfl
  obtain ⟨_, _, ⟨_, rfl⟩ | ⟨_, hu⟩⟩ := engineStep_next hu
  · exact h
  · rcases State.fetch_next hu with ⟨_, hu⟩ | ⟨_, _, hu⟩
    · exact runWord_inv hfresh hu
    · exact takeException_inv hfresh.sound hu

/-- A mark touches nothing of the invariant (10 R50). -/
theorem scheduledStep_inv (h : s.Inv) : (scheduledStep s).Inv := by
  rcases scheduledStep_cases s with hu | ⟨r, _, hr⟩ | ⟨r, _, hr⟩
  · exact engineStep_inv h hu
  · rw [hr]; exact h.congr rfl rfl rfl
  · rw [hr]; exact h.congr rfl rfl rfl

theorem State.Inv.offerInterrupt (h : s.Inv) (offer : Interrupt) : (s.offerInterrupt offer).Inv := by
  unfold State.offerInterrupt
  split
  · exact (h.enterVector s.pc interruptOffset).congr rfl rfl rfl
  · exact h

/-- A reset keeps memory, and SR is 0 and DS Normal after it (70 R680, R681). -/
theorem State.Inv.externalReset (h : s.Inv) : s.externalReset.Inv := ⟨h.memory, BitVec.zero_and, rfl⟩

/-- A debugger writes no DS, and SR masked (00 R9; log 16). -/
theorem State.Inv.debugWrite (h : s.Inv) (target : DebugTarget) (v : Word) : (s.debugWrite target v).Inv := by
  cases target with
  | r i => exact h.congr (State.setR_mem s i v) (State.setR_sr s i v) (State.setR_ds s i v)
  | rBank b => exact h.congr (State.setRBank_mem s b v) (State.setRBank_sr s b v) (State.setRBank_ds s b v)
  | sr => exact h.setSr v
  | memory a => exact h.setByte a _
  | gbr | vbr | sgr | ssr | spc | dbr | pr | mach | macl | pc | ldst | sleeping => exact h.congr rfl rfl rfl

theorem runEvent_inv {e : Event} (h : s.Inv) (hu : runEvent e s = .next u) : u.Inv := by
  cases e with
  | engine => cases hu; exact scheduledStep_inv h
  | reset => cases hu; exact h.externalReset
  | interrupt offer => cases hu; exact h.offerInterrupt offer
  | debugWrite target v => cases hu; exact h.debugWrite target v

end Sys2Proof.Machine
end

section
/-! The invariant at reset and at every step. -/

namespace Sys2Proof.Machine

/-- Settles O3: a step is an event, or with no event coming a step of the engine, and both keep the invariant. -/
theorem everyStepKeepsTheInvariant : Obligations.EveryStepKeepsTheInvariant := by
  intro s u h hu
  cases he : s.events with
  | nil => exact engineStep_inv h ((step_engine he).symm.trans hu)
  | cons e rest =>
    have hrest : State.Inv { s with events := rest } := h.congr rfl rfl rfl
    exact runEvent_inv hrest ((step_event he).symm.trans hu)

/-- Settles O2: nothing is stored, SR is 0 and DS is Normal (70 R680). -/
theorem resetStateMeetsTheInvariant : Obligations.ResetStateMeetsTheInvariant :=
  ⟨State.reset_memory_wf, BitVec.zero_and, rfl⟩

end Sys2Proof.Machine
end

section
/-! The register file in either bank model (10 R30 to R33). -/

namespace Sys2Proof.Machine

/-! ## Which bank a name reaches -/

/-- `sel` of R33. -/
theorem State.sel_iff (s : State) : s.sel = true ↔
    s.params.bankModel = .architectural ∧ s.sr.getLsbD 30 = true ∧ s.sr.getLsbD 29 = true := by
  unfold State.sel State.md State.rb
  simp only [Bool.and_eq_true, decide_eq_true_eq]

/-- The bank registers' numbers are the low general registers'. -/
theorem low3_append (b : BitVec 1) (i : BankReg) : low3 (b ++ i) = i := by revert b i; decide

theorem msb_append_zero (i : BankReg) : (0b0#1 ++ i : Reg).msb = false := by revert i; decide

theorem msb_append_one (i : BankReg) : (0b1#1 ++ i : Reg).msb = true := by revert i; decide

/-- R0 to R7 are bank `sel` (R33). -/
theorem State.r_low (s : State) (i : BankReg) :
    s.r (0b0#1 ++ i) = if s.sel then Bank.read s.b1 i else Bank.read s.b0 i := by
  unfold State.r
  rw [msb_append_zero, low3_append, if_neg Bool.false_ne_true]

/-- R8 to R15 are not banked (R33). -/
theorem State.r_high (s : State) (i : BankReg) : s.r (0b1#1 ++ i) = Bank.read s.rh i := by
  unfold State.r
  rw [msb_append_one, low3_append, if_pos rfl]

/-- R_BANK is the other bank (R33). -/
theorem State.rBank_eq (s : State) (i : BankReg) :
    s.rBank i = if s.sel then Bank.read s.b0 i else Bank.read s.b1 i := rfl

/-- Settles O13: each name under each value of `sel`; an SR write reaches no bank. -/
theorem banksFollowSelAndKeepTheirValues : Obligations.BanksFollowSelAndKeepTheirValues := by
  intro s i
  refine ⟨fun hsel => ?selected, fun hsel => ?unselected, s.r_high i, fun v => ⟨rfl, rfl, rfl⟩⟩
  case selected =>
    have h := s.sel_iff.2 hsel
    rw [s.r_low, s.rBank_eq, if_pos h, if_pos h]
    exact ⟨rfl, rfl⟩
  case unselected =>
    have h : ¬s.sel = true := fun h => hsel (s.sel_iff.1 h)
    rw [s.r_low, s.rBank_eq, if_neg h, if_neg h]
    exact ⟨rfl, rfl⟩

/-! ## Reading after writing -/

/-- Settles O14: a write of one general or bank register seen through both views. -/
theorem registerWritesReadBackAndReachNothingElse : Obligations.RegisterWritesReadBackAndReachNothingElse := by
  intro s v
  constructor
  · intro i
    refine ⟨(s.setR_r i v i).trans (if_pos rfl), fun k hk => ?_, s.setR_rBank i v⟩
    have hk : k ≠ i := by simpa using hk
    exact (s.setR_r i v k).trans (if_neg hk)
  · intro b
    exact ⟨(s.setRBank_rBank b v b).trans (if_pos rfl), fun c hc => (s.setRBank_rBank b v c).trans (if_neg hc),
      fun k _ => s.setRBank_r b v k⟩

end Sys2Proof.Machine
end

section
/-! The flags change only through their writers (10 R36): entry writes no flag, and a delayed branch but RTE
leaves SR alone. -/

namespace Sys2Proof.Machine

/-- Outside a slot, taking an exception writes no SR bit but those that entry sets (60 R621, R622). -/
theorem takeException_sr {e : Exc} {s u : State} (hds : s.ds = .normal) (hu : takeException e s = .next u) :
    u.sr = s.sr ∨ u.sr = s.sr ||| entryBits := by
  have hundo := State.undoBranch_normal hds
  rcases takeException_next hu with ⟨_, rfl⟩ | ⟨_, _, rfl⟩
  · refine .inl ?_
    show s.undoBranch.sr = s.sr
    rw [hundo]
  · refine .inr ?_
    show (s.undoBranch.recordCause e).sr ||| entryBits = _
    rw [State.recordCause_sr, hundo]

/-- An exception outside a slot keeps every SR bit that entry does not set. -/
theorem takeException_bit {e : Exc} {s u : State} (hds : s.ds = .normal) (hu : takeException e s = .next u) {k : Nat}
    (hk : entryBits.getLsbD k = false) : u.sr.getLsbD k = s.sr.getLsbD k := by
  rcases takeException_sr hds hu with h | h
  · rw [h]
  · rw [h, BitVec.getLsbD_or, hk, Bool.or_false]

/-- Of the delayed branches only the writers of a whole SR value change SR (44 R401, R421). -/
theorem Delays.sr_eq {i : Instr} {s u : State} (h : Delays i s u) (hi : writesStatus i = false) : u.sr = s.sr := by
  obtain ⟨_, _, hsr | ⟨rfl, _⟩⟩ := h
  · exact hsr
  · exact nomatch hi

/-- The writers of each flag are the writers of a whole SR value and some more (R36, R37): an instruction that is
none of them keeps SR whole. -/
theorem writesStatus_of_flag {i : Instr} {more : Bool} (h : (writesStatus i || more) = false) : writesStatus i = false :=
  (Bool.or_eq_false_iff.1 h).1

/-- Settles O55, by the three ways an instruction ends in a next state. -/
theorem flagsChangeOnlyThroughTheirWriters : Obligations.FlagsChangeOnlyThroughTheirWriters := by
  intro i s u hds hu
  rcases exec_next hu with ⟨e, hexc⟩ | hkept | hdelays
  · have bit {k : Nat} : entryBits.getLsbD k = false → u.sr.getLsbD k = s.sr.getLsbD k := takeException_bit hds hexc
    exact ⟨fun _ => bit (by decide), fun _ => bit (by decide), fun _ => bit (by decide), fun _ => bit (by decide)⟩
  · exact ⟨hkept.tFlag, hkept.sFlag, hkept.qFlag, hkept.mFlag⟩
  · have bit {k : Nat} (hi : writesStatus i = false) : u.sr.getLsbD k = s.sr.getLsbD k := by rw [hdelays.sr_eq hi]
    exact ⟨fun h => bit (writesStatus_of_flag h), fun h => bit (writesStatus_of_flag h),
      fun h => bit (writesStatus_of_flag h), fun h => bit (writesStatus_of_flag h)⟩

end Sys2Proof.Machine
end

section
/-! Marks and runs (10 R50; 70 R681, R687): what each event does to a marked state, the ends a run tests for in
their order, and that a run ends finally only in a final state. -/

namespace Sys2Proof.Machine

variable {s u : State}

/-! ## Marks -/

/-- A scheduled step that faults leaves the state before it, marked (log 20). -/
theorem scheduledStep_fault {f : Fault} (h : engineStep s = .fault f) :
    scheduledStep s = { s with mark := some (.faulted f) } := by
  unfold scheduledStep; rw [h]

/-- A scheduled step that is refused leaves the state before it, marked (log 20). -/
theorem scheduledStep_refused {r : Refusal} (h : engineStep s = .refused r) :
    scheduledStep s = { s with mark := some (.refused r) } := by
  unfold scheduledStep; rw [h]

theorem scheduledStep_next (h : engineStep s = .next u) : scheduledStep s = u := by
  unfold scheduledStep; rw [h]

/-- A marked engine marks itself again, with the mark it has. -/
theorem scheduledStep_marked {m : Mark} (h : s.mark = some m) : scheduledStep s = s := by
  have hself : { s with mark := some m } = s := by rw [← h]
  cases m with
  | faulted f => exact (scheduledStep_fault (engineStep_marked h)).trans hself
  | refused r => exact (scheduledStep_refused (engineStep_marked h)).trans hself

/-- A marked engine accepts no interrupt (log 20). -/
theorem State.offerInterrupt_marked {m : Mark} (h : s.mark = some m) (offer : Interrupt) :
    s.offerInterrupt offer = s := by
  have hno : s.accepts offer = false := by unfold State.accepts; rw [h]; rfl
  unfold State.offerInterrupt
  rw [if_neg (by rw [hno]; exact Bool.false_ne_true)]

/-- A debugger writes no mark (log 16). -/
theorem State.debugWrite_mark (s : State) (target : DebugTarget) (v : Word) : (s.debugWrite target v).mark = s.mark := by
  cases target with
  | r i => exact State.setR_mark s i v
  | rBank b => exact State.setRBank_mark s b v
  | sr | gbr | vbr | sgr | ssr | spc | dbr | pr | mach | macl | pc | ldst | sleeping | memory => rfl

/-- No event but a reset clears the mark, and none but a reset and a debugger's write changes a marked state. -/
theorem runEvent_marked {m : Mark} (h : s.mark = some m) {e : Event} (he : e ≠ .reset) :
    (∃ u, runEvent e s = .next u ∧ u.mark = some m) ∧
      ((∀ target v, e ≠ .debugWrite target v) → runEvent e s = .next s) := by
  have same {x : State} (hx : x = s) :
      (∃ u, Host.Outcome.next (φ := Fault) (ρ := Refusal) x = .next u ∧ u.mark = some m) := ⟨x, rfl, hx ▸ h⟩
  cases e with
  | engine => exact ⟨same (scheduledStep_marked h), fun _ => congrArg _ (scheduledStep_marked h)⟩
  | reset => exact absurd rfl he
  | interrupt offer =>
    exact ⟨same (State.offerInterrupt_marked h offer), fun _ => congrArg _ (State.offerInterrupt_marked h offer)⟩
  | debugWrite target v => exact ⟨⟨_, rfl, (s.debugWrite_mark target v).trans h⟩, fun hno => absurd rfl (hno target v)⟩

/-! ## The ends of a run (70 R687) -/

theorem State.interruptPending_iff (s : State) :
    s.interruptPending = true ↔ ∃ offer, Event.interrupt offer ∈ s.events := by
  unfold State.interruptPending
  rw [List.any_eq_true]
  constructor
  · rintro ⟨e, he, hp⟩
    cases e with
    | interrupt offer => exact ⟨offer, he⟩
    | engine | reset | debugWrite _ _ => exact nomatch hp
  · rintro ⟨offer, he⟩
    exact ⟨_, he, rfl⟩

/-- R687 a; a state carrying a mark is never final (10 R50). -/
theorem State.isFinal_iff (s : State) : s.isFinal = true ↔
    s.mark = none ∧ s.sleeping = true ∧ ∀ offer, Event.interrupt offer ∉ s.events := by
  have hp : s.interruptPending = false ↔ ∀ offer, Event.interrupt offer ∉ s.events := by
    rw [← Bool.not_eq_true, s.interruptPending_iff, not_exists]
  unfold State.isFinal
  rw [Bool.and_eq_true, Bool.and_eq_true, Option.isNone_iff_eq_none, Bool.not_eq_true', hp, and_assoc]

section Ends
variable {stop : Option Word}

theorem State.runEnd_marked (h : s.mark ≠ none) : s.runEnd stop = some (.marked s) :=
  if_pos (Option.isSome_iff_ne_none.2 h)

/-- An unmarked state ends a run finally, or at the stop address, or not at all, in this order. -/
theorem State.runEnd_unmarked (h : s.mark = none) : s.runEnd stop =
    if s.isFinal then some (.final s) else if stop = some s.pc then some (.stopped s) else none :=
  if_neg (by rw [h]; exact Bool.false_ne_true)

/-- A run ends as soon as an end is reached, whatever its bound. -/
theorem run_of_runEnd {e : RunEnd} (h : s.runEnd stop = some e) (k : Nat) : run stop k s = e := by
  cases k with
  | zero => rw [run, h]; rfl
  | succ k => rw [run, h]

/-- With no end reached, the bound decides. -/
theorem run_zero (h : s.runEnd stop = none) : run stop 0 s = .bounded s := by
  rw [run, h]; rfl

theorem run_succ_next (h : s.runEnd stop = none) (hu : step s = .next u) (k : Nat) :
    run stop (k + 1) s = run stop k u := by
  rw [run, h, hu]

theorem run_succ_fault (h : s.runEnd stop = none) {f : Fault} (hf : step s = .fault f) (k : Nat) :
    run stop (k + 1) s = .marked { s with mark := some (.faulted f) } := by
  rw [run, h, hf]

theorem run_succ_refused (h : s.runEnd stop = none) {r : Refusal} (hr : step s = .refused r) (k : Nat) :
    run stop (k + 1) s = .marked { s with mark := some (.refused r) } := by
  rw [run, h, hr]

/-- Only a final state ends a run finally. -/
theorem State.isFinal_of_runEnd (h : s.runEnd stop = some (.final u)) : u.isFinal = true := by
  unfold State.runEnd at h
  split at h
  · cases h
  · split at h
    · next hf => cases h; exact hf
    · split at h <;> cases h

/-- A run that ends finally ends in a final state (R687 a), however many steps it took. -/
theorem isFinal_of_run {k : Nat} : ∀ {s : State}, run stop k s = .final u → u.isFinal = true := by
  induction k with
  | zero =>
    intro s h
    cases he : s.runEnd stop with
    | some e =>
      obtain rfl : e = .final u := (run_of_runEnd he _).symm.trans h
      exact State.isFinal_of_runEnd he
    | none => rw [run_zero he] at h; cases h
  | succ k ih =>
    intro s h
    cases he : s.runEnd stop with
    | some e =>
      obtain rfl : e = .final u := (run_of_runEnd he _).symm.trans h
      exact State.isFinal_of_runEnd he
    | none =>
      cases hs : step s with
      | next x => exact ih ((run_succ_next he hs k).symm.trans h)
      | fault f => rw [run_succ_fault he hs] at h; cases h
      | refused r => rw [run_succ_refused he hs] at h; cases h

end Ends

end Sys2Proof.Machine
end

section
/-! The statement about marks and runs, a clause at a time. -/

namespace Sys2Proof.Machine

/-- Settles O60: the scheduled step, the marked state, the ends of a run in their order, and the final state. -/
theorem marksStayUntilAResetAndEndRuns : Obligations.MarksStayUntilAResetAndEndRuns := by
  refine ⟨?scheduled, ?marked, ?ends, ?final⟩
  case scheduled =>
    intro s rest he _
    have hstep : step s = .next (scheduledStep { s with events := rest }) := step_event he
    refine ⟨fun f h => ?_, fun r h => ?_, fun u h => ?_⟩
    · rw [hstep, scheduledStep_fault h]
    · rw [hstep, scheduledStep_refused h]
    · rw [hstep, scheduledStep_next h]; exact ⟨rfl, engineStep_unmarked h⟩
  case marked =>
    intro s m hm
    have houtcome (he : s.events = []) : step s = m.outcome := (step_engine he).trans (engineStep_marked hm)
    refine ⟨fun he u => ?_, fun he f hf => ?_, fun he r hr => ?_, fun e rest he => ⟨?_, fun hne => ?_⟩⟩
    · rw [houtcome he]; exact m.outcome_ne_next u
    · rw [houtcome he, hf]; rfl
    · rw [houtcome he, hr]; rfl
    · rintro rfl
      exact ⟨_, step_event he, rfl⟩
    · rw [step_event he]
      exact runEvent_marked (s := { s with events := rest }) hm hne
  case ends =>
    intro stop k s
    refine ⟨fun hm => run_of_runEnd (State.runEnd_marked hm) k, fun hm => ?_⟩
    intro final
    have hfinal : s.isFinal = true ↔ final := s.isFinal_iff.trans (and_iff_right hm)
    have hend := State.runEnd_unmarked (stop := stop) hm
    refine ⟨fun hf => ?_, fun hf hpc => ?_, fun hf hpc => ?_⟩
    · rw [if_pos (hfinal.2 hf)] at hend
      exact run_of_runEnd hend k
    · rw [if_neg (mt hfinal.1 hf), if_pos hpc] at hend
      exact run_of_runEnd hend k
    · rw [if_neg (mt hfinal.1 hf), if_neg hpc] at hend
      exact ⟨run_zero hend, fun u hu => run_succ_next hend hu k, fun f h => run_succ_fault hend h k,
        fun r h => run_succ_refused hend h k⟩
  case final =>
    intro s u k stop h
    obtain ⟨hm, hsleep, _⟩ := u.isFinal_iff.1 (isFinal_of_run h)
    exact ⟨hm, hsleep, fun he hds => (step_engine he).trans (engineStep_sleeping hm hds hsleep)⟩

end Sys2Proof.Machine
end

section
/-! Memory changes only through the stores (20 R85), by the three ways an instruction ends in a next state. -/

namespace Sys2Proof.Machine

variable {i : Instr} {s u : State}

/-- No instruction reaches what the platform fixes, nor the step counter. -/
theorem exec_platform (h : exec i s = .next u) : u.params = s.params ∧ u.events = s.events ∧ u.ticks = s.ticks := by
  rcases exec_next h with ⟨_, hexc⟩ | hkept | ⟨_, ⟨_, hu⟩, _⟩
  · obtain ⟨_, hparams, _, hevents, _, hticks⟩ := takeException_keeps hexc
    exact ⟨hparams, hevents, hticks⟩
  · exact ⟨hkept.params, hkept.events, hkept.ticks⟩
  · rw [hu]; exact ⟨rfl, rfl, rfl⟩

/-- Neither exception entry nor a delayed branch writes memory (60 R622; 44 R401). -/
theorem exec_mem (hw : writesMemory i = false) (h : exec i s = .next u) : u.mem = s.mem := by
  rcases exec_next h with ⟨_, hexc⟩ | hkept | ⟨_, ⟨_, hu⟩, _⟩
  · obtain ⟨_, _, hmem, _⟩ := takeException_keeps hexc
    exact hmem
  · exact hkept.mem hw
  · rw [hu]

/-- Settles O56: the same memory behind the same port in the same step reads the same. -/
theorem memoryChangesOnlyThroughTheStores : Obligations.MemoryChangesOnlyThroughTheStores := by
  intro i s u h
  obtain ⟨hparams, hevents, hticks⟩ := exec_platform h
  exact ⟨fun hw => State.byteAt_congr (exec_mem hw h) hparams hticks, hparams, hevents⟩

end Sys2Proof.Machine
end

section
/-! Byte order (20 R81, R82): what a read assembles in each order, and the bytes of a stored long. -/

namespace Sys2Proof.Machine

variable {s : State}

/-! ## Bytes side by side -/

/-- Two bytes of a word, the first the more significant. -/
theorem append_two_eq_or (x y : Byte) : (0#16 ++ x ++ y : Word) = x.setWidth 32 <<< 8 ||| y.setWidth 32 := by
  have h := BitVec.setWidth_append_append_eq_shiftLeft_setWidth_or (b := 0#16) (b' := x) (b'' := y) (w''' := 32)
  simpa using h

/-- Four bytes of a word, the first the most significant. -/
theorem append_four_eq_or (w x y z : Byte) : (w ++ x ++ y ++ z : Word) =
    w.setWidth 32 <<< 24 ||| x.setWidth 32 <<< 16 ||| y.setWidth 32 <<< 8 ||| z.setWidth 32 := by
  have h := BitVec.setWidth_append_append_append_eq_shiftLeft_setWidth_or
    (b := w) (b' := x) (b'' := y) (b''' := z) (w'''' := 32)
  simpa using h

/-- The same four bytes from the least significant. -/
theorem or_four_reverse (w x y z : Word) : w ||| x ||| y ||| z = z ||| y ||| x ||| w := by ac_rfl

/-- Two neighbouring bytes of a value are its bits from the lower byte on. -/
theorem byteOf_append_two (v : Word) (k : Nat) : byteOf v (k + 1) ++ byteOf v k = v.extractLsb' (8 * k) 16 :=
  BitVec.extractLsb'_append_extractLsb'_eq_extractLsb' (by omega)

/-- A half of a value from two neighbouring bytes. -/
theorem byteOf_append_half (v : Word) (k : Nat) :
    (0#16 ++ byteOf v (k + 1) ++ byteOf v k : Word) = (v.extractLsb' (8 * k) 16).setWidth 32 := by
  rw [← byteOf_append_two, append_two_eq_or, BitVec.setWidth_append_eq_shiftLeft_setWidth_or]

/-- The three upper bytes of a value. -/
theorem byteOf_append_upper (v : Word) : byteOf v 3 ++ byteOf v 2 ++ byteOf v 1 = v.extractLsb' 8 24 := by
  rw [byteOf_append_two v 2]
  exact BitVec.extractLsb'_append_extractLsb'_eq_extractLsb' (by omega)

/-! ## Reads in each byte order -/

theorem State.memRead_byte (s : State) (a : Word) : s.memRead .byte a = (s.byteAt a).setWidth 32 := rfl

theorem State.memRead_word_little (h : s.params.endian = .little) (a : Word) :
    s.memRead .word a = 0#16 ++ s.byteAt (a + 1) ++ s.byteAt a := by
  unfold State.memRead; simp only [h]

theorem State.memRead_word_big (h : s.params.endian = .big) (a : Word) :
    s.memRead .word a = 0#16 ++ s.byteAt a ++ s.byteAt (a + 1) := by
  unfold State.memRead; simp only [h]

theorem State.memRead_long_little (h : s.params.endian = .little) (a : Word) :
    s.memRead .long a = s.byteAt (a + 3) ++ s.byteAt (a + 2) ++ s.byteAt (a + 1) ++ s.byteAt a := by
  unfold State.memRead; simp only [h]

theorem State.memRead_long_big (h : s.params.endian = .big) (a : Word) :
    s.memRead .long a = s.byteAt a ++ s.byteAt (a + 1) ++ s.byteAt (a + 2) ++ s.byteAt (a + 3) := by
  unfold State.memRead; simp only [h]

/-- Settles O15: each order's bytes put together, what a store reaches, and that ENDIAN is a parameter. -/
theorem memReadAssemblesBytesInTheByteOrder : Obligations.MemReadAssemblesBytesInTheByteOrder := by
  refine ⟨?read, ?write, ?endian⟩
  case read =>
    intro s a z
    refine ⟨s.memRead_byte a, fun h => ⟨?_, ?_⟩, fun h => ⟨?_, ?_⟩⟩
    · rw [State.memRead_word_little h, append_two_eq_or, BitVec.or_comm]
    · rw [State.memRead_long_little h, append_four_eq_or, or_four_reverse]
    · rw [State.memRead_word_big h, append_two_eq_or]
    · rw [State.memRead_long_big h, append_four_eq_or]
  case write =>
    intro s w a v
    exact ⟨fun ⟨hwf, hram⟩ => s.memRead_memWrite hwf w a v hram, s.memWrite_byteAt_other w a v⟩
  case endian => exact fun i s u h => by rw [(exec_platform h).1]

/-! ## The bytes of a stored long -/

theorem State.ram_at_first {a : Word} {n : Nat} (h : s.ram a n = true) (hn : 0 < n) : s.isRam a = true := by
  simpa using State.ram_at h hn

/-- A long stored little-endian in RAM, byte by byte from the least significant. -/
theorem State.memWrite_long_little_byteAt (hl : s.params.endian = .little) {a : Word} (hk : Keeps s a 4) (v : Word) :
    (s.memWrite .long a v).byteAt a = byteOf v 0 ∧ (s.memWrite .long a v).byteAt (a + 1) = byteOf v 1 ∧
    (s.memWrite .long a v).byteAt (a + 2) = byteOf v 2 ∧ (s.memWrite .long a v).byteAt (a + 3) = byteOf v 3 := by
  obtain ⟨hwf, hram⟩ := hk
  have hw : s.memWrite .long a v = (((s.setByte a (byteOf v 0)).setByte (a + 1) (byteOf v 1)).setByte (a + 2)
      (byteOf v 2)).setByte (a + 3) (byteOf v 3) := by
    unfold State.memWrite; simp only [hl]
  rw [hw]
  exact s.byteAt_four hwf a (State.ram_at_first hram (by decide)) (State.ram_at hram (k := 1) (by decide))
    (State.ram_at hram (k := 2) (by decide)) (State.ram_at hram (k := 3) (by decide)) _ _ _ _

/-- A byte stored at a long's lowest address replaces the least significant byte of the long's read. -/
theorem State.setByte_memRead_long_little (hl : s.params.endian = .little) (hwf : Memory.wf s.mem = true) {a : Word}
    (hr : s.isRam a = true) (b : Byte) :
    (s.setByte a b).memRead .long a = s.byteAt (a + 3) ++ s.byteAt (a + 2) ++ s.byteAt (a + 1) ++ b := by
  have above {c : Word} (hc : c ≠ 0) : (s.setByte a b).byteAt (a + c) = s.byteAt (a + c) :=
    s.byteAt_setByte_other a b _ (by simpa using hc)
  rw [State.memRead_long_little (by rw [State.setByte_params]; exact hl), above (by decide), above (by decide),
    above (by decide), s.byteAt_setByte hwf hr, if_pos rfl]

/-- Settles O16: the four bytes of the long, read at each width. -/
theorem bytesOfAStoredLongAreSeenAtEveryWidth : Obligations.BytesOfAStoredLongAreSeenAtEveryWidth := by
  intro s a v hl hk u
  obtain ⟨b0, b1, b2, b3⟩ := State.memWrite_long_little_byteAt hl hk v
  have hlu : u.params.endian = .little := by rw [State.memWrite_params]; exact hl
  refine ⟨b0, b1, b2, b3, ?low, ?high, fun b => ?byte⟩
  case low => rw [State.memRead_word_little hlu, b1, b0]; exact byteOf_append_half v 0
  case high =>
    have hnext : a + 2 + 1 = a + 3 := BitVec.add_assoc a 2 1
    rw [State.memRead_word_little hlu, hnext, b3, b2]
    exact byteOf_append_half v 2
  case byte =>
    obtain ⟨hwf, hram⟩ := hk
    have hr : u.isRam a = true :=
      State.ram_at_first ((State.ram_congr (s.memWrite_params .long a v) a 4).trans hram) (by decide)
    rw [State.setByte_memRead_long_little hlu (State.memWrite_wf hwf .long a v) hr, b1, b2, b3, byteOf_append_upper]

end Sys2Proof.Machine
end

section
/-! The port's map decides each access (20 R92, R94; log 4). -/

namespace Sys2Proof.Machine

variable {s : State}

/-! ## The first region that covers an address -/

/-- Regions that do not cover an address are passed over. -/
theorem find?_covers_append {x : Word} {before : List Region} (hb : ∀ h ∈ before, Region.covers h x = false)
    (rest : List Region) : (before ++ rest).find? (Region.covers · x) = rest.find? (Region.covers · x) := by
  have hnone : before.find? (Region.covers · x) = none :=
    List.find?_eq_none.2 fun h hh => Bool.eq_false_iff.1 (hb h hh)
  rw [List.find?_append, hnone, Option.none_or]

/-- In no region: RAM. -/
theorem port_uncovered {p : Params} {x : Word} (h : p.port.find? (Region.covers · x) = none) :
    portReads p x = .stored ∧ portWrites p x = .stored := by
  unfold portReads portWrites; simp only [h, and_self]

theorem port_covered {p : Params} {x : Word} {g : Region} (h : p.port.find? (Region.covers · x) = some g) :
    portReads p x = g.reads ∧ portWrites p x = g.writes := by
  unfold portReads portWrites; simp only [h, and_self]

/-! ## What the port does not store or answer -/

theorem State.byteAt_constant {x : Word} {c : Byte} (h : portReads s.params x = .constant c) : s.byteAt x = c := by
  unfold State.byteAt; simp only [h]

/-- A store none of whose bytes the port stores. -/
theorem State.memWrite_absorbed {w : Width} {a : Word}
    (h : ∀ k, k < Width.bytes w → portWrites s.params (a + BitVec.ofNat 32 k) ≠ .stored) (v : Word) :
    s.memWrite w a v = s := by
  have absorb {k : Nat} (hk : k < Width.bytes w) (b : Byte) : s.setByte (a + BitVec.ofNat 32 k) b = s :=
    State.setByte_absorbed (h k hk) b
  have first (hk : 0 < Width.bytes w) (b : Byte) : s.setByte a b = s := by simpa using absorb hk b
  have second (hk : 1 < Width.bytes w) (b : Byte) : s.setByte (a + 1) b = s := absorb hk b
  cases w with
  | byte => exact first (by decide) _
  | word =>
    unfold State.memWrite
    cases s.params.endian <;> simp only [first (by decide), second (by decide)]
  | long =>
    have third (b : Byte) : s.setByte (a + 2) b = s := absorb (by decide) b
    have fourth (b : Byte) : s.setByte (a + 3) b = s := absorb (by decide) b
    unfold State.memWrite
    cases s.params.endian <;> simp only [first (by decide), second (by decide), third, fourth]

/-- One unanswered byte leaves the whole access without an answer. -/
theorem State.answers_false {d : Direction} {a : Word} {n k : Nat} (hk : k < n)
    (h : portAnswers s.params d (a + BitVec.ofNat 32 k) = false) : s.answers d a n = false :=
  List.all_eq_false.2 ⟨k, List.mem_range.2 hk, by rw [h]; exact Bool.false_ne_true⟩

theorem portAnswers_read_false {p : Params} {x : Word} (h : portReads p x = .unanswered) :
    portAnswers p .read x = false := decide_eq_false (not_not_intro h)

theorem portAnswers_write_false {p : Params} {x : Word} (h : portWrites p x = .unanswered) :
    portAnswers p .write x = false := decide_eq_false (not_not_intro h)

theorem State.fetch_unanswered {a : Word} (h : Width.aligned .word a = true) (ha : s.answers .read a 2 = false)
    (k : Half → Result) : s.fetch a k = .fault .portNoAnswer := by
  unfold State.fetch; rw [if_pos h, if_neg (by rw [ha]; exact Bool.false_ne_true)]

/-- Settles O59: the map, one byte, a store the port does not keep, and an access it does not answer. -/
theorem portMapDecidesEachAccess : Obligations.PortMapDecidesEachAccess := by
  refine ⟨?map, ?byte, ?store, ?unanswered⟩
  case map =>
    intro p x g before after hb
    have hfind := find?_covers_append hb
    refine ⟨fun hp => port_uncovered ?_, fun hg hp => port_covered ?_⟩
    · rw [hp]; simpa using hfind []
    · rw [hp, hfind]; exact List.find?_cons_of_pos hg
  case byte =>
    intro s x b
    refine ⟨fun ⟨hwf, hram⟩ => ?_, fun c hc => State.byteAt_constant (s := s.setByte x b) hc,
      fun h => State.setByte_absorbed h b⟩
    rw [s.byteAt_setByte hwf (State.ram_at_first hram (by decide)), if_pos rfl]
  case store => exact fun s w a v h => State.memWrite_absorbed h v
  case unanswered =>
    intro s w a v n k c f hw hn
    refine ⟨fun h => ?_, fun h => ?_, ?_⟩
    · exact State.load_unanswered hw (State.answers_false hn (portAnswers_read_false h)) k
    · exact State.store_unanswered hw (State.answers_false hn (portAnswers_write_false h)) c
    · rintro rfl h
      exact State.fetch_unanswered hw (State.answers_false hn (portAnswers_read_false h)) f

end Sys2Proof.Machine
end

section
/-! The alignment check of loads, stores and the fetch (20 R83, R84, R88). -/

namespace Sys2Proof.Machine

variable {s : State} {a : Word}

/-! ## Aligned addresses -/

theorem Width.aligned_word_iff (a : Word) : Width.aligned .word a = true ↔ a.toNat % 2 = 0 := by
  rw [Width.aligned_word, decide_eq_true_eq]

theorem Width.aligned_long_iff (a : Word) : Width.aligned .long a = true ↔ a.toNat % 4 = 0 := by
  rw [Width.aligned_long, decide_eq_true_eq]

theorem Width.aligned_word_odd (h : a.toNat % 2 = 1) : Width.aligned .word a = false := by
  rw [Width.aligned_word, decide_eq_false_iff_not, h]; exact Nat.one_ne_zero

/-- A long address is aligned when its two low bits are 0. -/
theorem Width.aligned_long_of_setWidth (h : a.setWidth 2 = 0) : Width.aligned .long a = true := by
  have hmod : a.toNat % 2 ^ 2 = 0 := (BitVec.toNat_setWidth 2 a).symm.trans (congrArg BitVec.toNat h)
  exact (Width.aligned_long_iff a).2 hmod

/-- PC is masked and the displacement counts longs (30 R125), so the two low bits are 0. -/
theorem State.eaPcLong_aligned (s : State) (d : BitVec 8) : Width.aligned .long (s.eaPcLong d) = true := by
  apply Width.aligned_long_of_setWidth
  unfold State.eaPcLong
  rw [BitVec.setWidth_add _ _ (by decide), BitVec.setWidth_add _ _ (by decide), BitVec.setWidth_mul _ _ (by decide),
    BitVec.setWidth_and, show (0xFFFFFFFC : Word).setWidth 2 = 0#2 by decide,
    show (4 : Word).setWidth 2 = 0#2 by decide, BitVec.and_zero, BitVec.zero_mul]
  rfl

/-! ## A misaligned access -/

theorem addressError_fault (h : s.params.misaligned = .fault) (d : Direction) (a : Word) :
    addressError d a s = .fault .misalignedData := by
  unfold addressError; simp only [h]

theorem addressError_exception (h : s.params.misaligned = .exception) (d : Direction) (a : Word) :
    addressError d a s = takeException (d.addressError a) s := by
  unfold addressError; simp only [h]

/-- Settles O17: the check of R83, and both values of MISALIGNED in each direction. -/
theorem misalignedAccessesFaultOrRaise : Obligations.MisalignedAccessesFaultOrRaise := by
  refine ⟨fun a => ⟨Width.aligned_byte a, Width.aligned_word_iff a, Width.aligned_long_iff a⟩,
    State.eaPcLong_aligned, fun s w a v k c hw => ?_⟩
  rw [State.load_misaligned hw, State.store_misaligned hw]
  exact ⟨fun h => ⟨addressError_fault h _ a, addressError_fault h _ a⟩,
    fun h => ⟨addressError_exception h _ a, addressError_exception h _ a⟩⟩

/-! ## The fetch -/

theorem State.fetch_odd_fault (ha : Width.aligned .word a = false) (h : s.params.misaligned = .fault)
    (k : Half → Result) : s.fetch a k = .fault .misalignedFetch := by
  unfold State.fetch; simp only [ha, h, Bool.false_eq_true, if_false]

theorem State.fetch_odd_exception (ha : Width.aligned .word a = false) (h : s.params.misaligned = .exception)
    (k : Half → Result) : s.fetch a k = takeException (.instructionAddressError a) s := by
  unfold State.fetch; simp only [ha, h, Bool.false_eq_true, if_false]

/-- Settles O10: the fetch itself, at PC, in the slot, and the step of a delayed branch. -/
theorem fetchReadsTheWordAtPcOrRaises : Obligations.FetchReadsTheWordAtPcOrRaises := by
  refine ⟨?fetch, ?engine, ?slot, ?pair⟩
  case fetch =>
    exact fun s a k => ⟨fun h => State.fetch_accessible h k,
      fun ha h => State.fetch_odd_fault (Width.aligned_word_odd ha) h k,
      fun ha h => State.fetch_odd_exception (Width.aligned_word_odd ha) h k⟩
  case engine => exact fun s he hm hds hs => (step_engine he).trans (engineStep_awake hm hds hs)
  case slot => exact fun u => rfl
  case pair =>
    intro s u w i t hf he hb
    obtain ⟨hu, _, hds⟩ := hb.writes hf.slot
    refine ⟨by rw [hu]; rfl, ?_⟩
    exact (step_of_encodes hf he).trans (runInstr_pending hb.1 hds)

end Sys2Proof.Machine
end

section
/-! Decoding inverts encoding (30 R122, R126, R128): the decoder finds an instruction's row by the row's own
nibbles, and puts a field wider than a nibble together again. -/

namespace Sys2Proof

/-- A word whose low byte is a field (R122). -/
theorem decode_of_byte {a b : BitVec 4} {f : BitVec 8 → Instr} (i : BitVec 8)
    (h : decodeNibbles a b (nib i 1) (nib i 0) = some (f (nib i 1 ++ nib i 0))) :
    decode (nibbles a b (nib i 1) (nib i 0)) = .ok (f i) := by
  rw [decode_of_nibbles h]; exact congrArg (Except.ok ∘ f) (byte_nib i)

/-- A word whose low 12 bits are a field (R122). -/
theorem decode_of_twelve {a : BitVec 4} {f : BitVec 12 → Instr} (i : BitVec 12)
    (h : decodeNibbles a (nib i 2) (nib i 1) (nib i 0) = some (f (nib i 2 ++ nib i 1 ++ nib i 0))) :
    decode (nibbles a (nib i 2) (nib i 1) (nib i 0)) = .ok (f i) := by
  rw [decode_of_nibbles h]; exact congrArg (Except.ok ∘ f) (twelve_nib i)

/-- A word of a bank row: bit 7 is 1, and bits 6:4 are the bank register (R122). -/
theorem decode_of_bank {a b d : BitVec 4} {f : BankReg → Instr} {o : Option Instr} (k : BankReg)
    (h : decodeNibbles a b (1#1 ++ k) d =
      if (1#1 ++ k : BitVec 4).msb then some (f (BitVec.extractLsb' 0 3 (1#1 ++ k : BitVec 4))) else o) :
    decode (nibbles a b (1#1 ++ k) d) = .ok (f k) := by
  obtain ⟨hmsb, hfield⟩ := bank_field k
  rw [if_pos hmsb, hfield] at h
  exact decode_of_nibbles h

/-- Decoding inverts encoding: a field of one nibble is read as it was written, a wider one is put together
again (R122, R126, R128). -/
theorem decode_encode (i : Instr) : decode (encode i) = .ok i := by
  cases i
  case bra d | bsr d | fpuGroup d => exact decode_of_twelve d rfl
  case ldcBank m k | ldcLBank m k => exact decode_of_bank k rfl
  case stcBank k n => exact decode_of_bank (f := (.stcBank · n)) k rfl
  case stcLBank k n => exact decode_of_bank (f := (.stcLBank · n)) k rfl
  case addImm i n => exact decode_of_byte (f := (.addImm · n)) i rfl
  case movImm i n => exact decode_of_byte (f := (.movImm · n)) i rfl
  case movWPc i n => exact decode_of_byte (f := (.movWPc · n)) i rfl
  case movLPc i n => exact decode_of_byte (f := (.movLPc · n)) i rfl
  case bf i | bt i | bfS i | btS i | cmpEqImm i => exact decode_of_byte i rfl
  case movBStoreGbr i | movWStoreGbr i | movLStoreGbr i | movBLoadGbr i | movWLoadGbr i | movLLoadGbr i | mova i
    | trapa i | tstImm i | andImm i | xorImm i | orImm i | tstB i | andB i | xorB i | orB i =>
    exact decode_of_byte i rfl
  all_goals exact decode_of_nibbles rfl

/-- Settles O4: every instruction is well formed (R6). -/
theorem decodeInvertsEncode : Obligations.DecodeInvertsEncode := fun i _ => decode_encode i

/-- Settles O6: each sample word is the encoding of its instruction. -/
theorem sampleWordsDecode : Obligations.SampleWordsDecode :=
  ⟨decode_encode (.add 1 2), decode_encode (.shad 1 2), decode_encode (.div1 1 2), decode_encode (.macL 4 5),
    decode_encode (.bra 6), decode_encode (.movLStoreDisp 2 15 1), decode_encode (.ldcBank 1 3),
    decode_encode (.trapa 0x20)⟩

end Sys2Proof
end

section
/-! The FPU words are refused (30 R128; log 13). -/

namespace Sys2Proof.Machine

theorem encodes_fpuGroup (op : BitVec 12) : Encodes (0b1111#4 ++ op) (.fpuGroup op) :=
  (congrArg decode (nibbles_twelve 0xF op)).symm.trans (decode_encode (.fpuGroup op))

theorem step_of_fpu {s : State} {w : Half} {j : Instr} (hf : Fetches s w) (he : Encodes w j) (hj : FpuSet j) :
    step s = .refused .fpuInstruction :=
  (step_of_encodes hf he).trans (runInstr_refused (exec_fpu hj s.fresh).1)

/-- Settles O12: the words are the encodings of the FPU rows, whose meaning is the refusal. -/
theorem fpuWordsAreRefused : Obligations.FpuWordsAreRefused :=
  ⟨fun op _ => ⟨encodes_fpuGroup op, rfl⟩, fun m _ => ⟨decode_encode (.ldsFpul m), rfl⟩,
    fun m _ => ⟨decode_encode (.ldsFpscr m), rfl⟩, fun m _ => ⟨decode_encode (.ldsLFpul m), rfl⟩,
    fun m _ => ⟨decode_encode (.ldsLFpscr m), rfl⟩, fun n _ => ⟨decode_encode (.stsFpul n), rfl⟩,
    fun n _ => ⟨decode_encode (.stsFpscr n), rfl⟩, fun n _ => ⟨decode_encode (.stsLFpul n), rfl⟩,
    fun n _ => ⟨decode_encode (.stsLFpscr n), rfl⟩, fun _ _ _ => step_of_fpu⟩

end Sys2Proof.Machine
end

section
/-! Words and rows (30 R126, R127). A word that decodes is the encoding of what it decodes to, so it lies in that
row; a word of a row decodes to an instruction of the row. So no word lies in two rows. -/

namespace Sys2Proof

/-! ## An encoding lies in its row -/

open Laws.TableRow in
/-- The encoding of an instruction lies in its row, by the table's lemmas in the order of the constructors. -/
theorem encode_mem_row (i : Instr) : encode i &&& i.row.1 = i.row.2 :=
  Instr.casesOn (motive := Statement) i
    add addImm addc addv sub subc subv neg negc dt extsB extsW extuB extuW cmpEq cmpEqImm cmpHs cmpGe cmpHi cmpGt
    cmpPz cmpPl cmpStr andReg andImm andB orReg orImm orB xorReg xorImm xorB notReg tst tstImm tasB tstB shll shlr
    shal shar shll2 shlr2 shll8 shlr8 shll16 shlr16 rotl rotr rotcl rotcr shad shld div0u div0s div1 dmulsL dmuluL
    mulL mulsW muluW macL macW clrmac bf bt bfS btS bra braf bsr bsrf jmp jsr rts rte movReg movImm movWPc movLPc
    movBStore movWStore movLStore movBLoad movWLoad movLLoad movBStorePre movWStorePre movLStorePre movBLoadPost
    movWLoadPost movLLoadPost movBStoreDisp movWStoreDisp movLStoreDisp movBLoadDisp movWLoadDisp movLLoadDisp
    movBStoreIdx movWStoreIdx movLStoreIdx movBLoadIdx movWLoadIdx movLLoadIdx movBStoreGbr movWStoreGbr
    movLStoreGbr movBLoadGbr movWLoadGbr movLLoadGbr mova movt swapB swapW xtrct movcaL movliL movcoL movuaL
    movuaLPost ldcSr ldcGbr ldcVbr ldcSgr ldcSsr ldcSpc ldcDbr ldcBank ldcLSr ldcLGbr ldcLVbr ldcLSgr ldcLSsr
    ldcLSpc ldcLDbr ldcLBank ldsMach ldsMacl ldsPr ldsLMach ldsLMacl ldsLPr stcSr stcGbr stcVbr stcSgr stcSsr stcSpc
    stcDbr stcBank stcLSr stcLGbr stcLVbr stcLSgr stcLSsr stcLSpc stcLDbr stcLBank stsMach stsMacl stsPr stsLMach
    stsLMacl stsLPr clrt sett clrs sets icbi pref prefi ocbi ocbp ocbwb ldtlb nop trapa synco sleep fpuGroup ldsFpul
    ldsFpscr ldsLFpul ldsLFpscr stsFpul stsFpscr stsLFpul stsLFpscr

/-! ## A word that decodes is the encoding of its instruction -/

/-- A byte field put together of two nibbles is written as they were. -/
theorem nibbles_of_byte (a b c d : BitVec 4) :
    nibbles a b (nib (c ++ d : BitVec (4 + 4)) 1) (nib (c ++ d : BitVec (4 + 4)) 0) = nibbles a b c d := by
  rw [nibbles_byte]
  simp only [nibbles, BitVec.append_assoc, BitVec.cast_eq]

/-- A 12-bit field put together of three nibbles is written as they were. -/
theorem nibbles_of_twelve (a b c d : BitVec 4) :
    nibbles a (nib (b ++ c ++ d : BitVec (4 + 4 + 4)) 2) (nib (b ++ c ++ d : BitVec (4 + 4 + 4)) 1)
      (nib (b ++ c ++ d : BitVec (4 + 4 + 4)) 0) = nibbles a b c d := by
  rw [nibbles_twelve]
  simp only [nibbles, BitVec.append_assoc, BitVec.cast_eq]

/-- A nibble with its high bit set is that bit and a bank register (R122). -/
theorem bank_append {c : BitVec 4} (h : c.msb = true) : 1#1 ++ c.extractLsb' 0 3 = c := by
  revert c; decide

/-! Each group of the decoder. Its branches keep the literal nibbles of the row, so the encoding is the word by
computation; a wildcard that answers an instruction stands for the last nibble, 1111. -/

theorem encode_of_group0 (b c d : BitVec 4) : ∀ i ∈ decodeGroup0 b c d, encode i = nibbles 0x0 b c d := by
  fun_cases decodeGroup0 b c d
  case case1 h => rintro _ ⟨⟩; exact congrArg (nibbles _ b · _) (bank_append h)
  all_goals rintro _ ⟨⟩ <;> subst_vars <;> rfl

theorem encode_of_group2 (b c d : BitVec 4) : ∀ i ∈ decodeGroup2 b c d, encode i = nibbles 0x2 b c d := by
  fun_cases decodeGroup2 b c d
  all_goals rintro _ ⟨⟩ <;> rfl

theorem encode_of_group3 (b c d : BitVec 4) : ∀ i ∈ decodeGroup3 b c d, encode i = nibbles 0x3 b c d := by
  fun_cases decodeGroup3 b c d
  all_goals rintro _ ⟨⟩ <;> rfl

theorem encode_of_group4 (b c d : BitVec 4) : ∀ i ∈ decodeGroup4 b c d, encode i = nibbles 0x4 b c d := by
  fun_cases decodeGroup4 b c d
  case case17 h | case39 h | case70 h => rintro _ ⟨⟩; exact congrArg (nibbles _ b · _) (bank_append h)
  case case77 =>
    obtain rfl : d = 0xF#4 := by revert d; decide
    rintro _ ⟨⟩; rfl
  all_goals rintro _ ⟨⟩ <;> rfl

theorem encode_of_group6 (b c d : BitVec 4) : ∀ i ∈ decodeGroup6 b c d, encode i = nibbles 0x6 b c d := by
  fun_cases decodeGroup6 b c d
  case case16 =>
    obtain rfl : d = 0xF#4 := by revert d; decide
    rintro _ ⟨⟩; rfl
  all_goals rintro _ ⟨⟩; rfl

theorem encode_of_group8 (b c d : BitVec 4) : ∀ i ∈ decodeGroup8 b c d, encode i = nibbles 0x8 b c d := by
  fun_cases decodeGroup8 b c d
  case case1 | case2 | case3 | case4 => rintro _ ⟨⟩; rfl
  all_goals rintro _ ⟨⟩ <;> exact nibbles_of_byte _ _ c d

theorem encode_of_groupC (b c d : BitVec 4) : ∀ i ∈ decodeGroupC b c d, encode i = nibbles 0xC b c d := by
  fun_cases decodeGroupC b c d
  case case16 =>
    obtain rfl : b = 0xF#4 := by revert b; decide
    rintro _ ⟨⟩; exact nibbles_of_byte _ _ c d
  all_goals rintro _ ⟨⟩; exact nibbles_of_byte _ _ c d

/-- A decoded instruction is encoded as the nibbles it was read from. -/
theorem encode_of_decodeNibbles (a b c d : BitVec 4) : ∀ i ∈ decodeNibbles a b c d, encode i = nibbles a b c d := by
  fun_cases decodeNibbles a b c d
  case case1 => exact encode_of_group0 b c d
  case case2 => rintro _ ⟨⟩; rfl
  case case3 => exact encode_of_group2 b c d
  case case4 => exact encode_of_group3 b c d
  case case5 => exact encode_of_group4 b c d
  case case6 => rintro _ ⟨⟩; rfl
  case case7 => exact encode_of_group6 b c d
  case case8 | case10 | case14 | case15 => rintro _ ⟨⟩; exact nibbles_of_byte _ b c d
  case case9 => exact encode_of_group8 b c d
  case case11 | case12 => rintro _ ⟨⟩; exact nibbles_of_twelve _ b c d
  case case13 => exact encode_of_groupC b c d
  case case16 =>
    obtain rfl : a = 0xF#4 := by revert a; decide
    rintro _ ⟨⟩; exact nibbles_of_twelve _ b c d

/-- No bit of a word that decodes is dropped (R127). -/
theorem encode_of_decode {w : Half} {i : Instr} (h : decode w = .ok i) : encode i = w := by
  rw [← nibbles_nib w] at h ⊢
  rw [decode_nibbles] at h
  cases hi : decodeNibbles (nib w 3) (nib w 2) (nib w 1) (nib w 0) with
  | none => rw [hi] at h; cases h
  | some j => rw [hi] at h; cases h; exact encode_of_decodeNibbles _ _ _ _ _ hi

/-! ## A word of a row decodes to an instruction of the row -/

/-- Masking a word masks each nibble. -/
theorem nib_and (v w : Half) (k : Nat) : nib (v &&& w) k = nib v k &&& nib w k := BitVec.extractLsb'_and

/-- A nibble of a word of a row: the row's own where the mask fixes it whole, else the word's. -/
def rowNib (mask fixed w : Half) (k : Nat) : BitVec 4 :=
  if nib mask k = 0xF#4 then nib fixed k else nib w k

theorem nib_of_row {mask fixed w : Half} (h : w &&& mask = fixed) (k : Nat) : nib w k = rowNib mask fixed w k := by
  unfold rowNib
  split
  · next hk => rw [← h, nib_and, hk]; exact BitVec.and_allOnes.symm
  · rfl

/-- It is enough that the row's nibbles, the word's own in the fields' place, decode to an instruction of the row. -/
theorem decode_of_rowNib {mask fixed w : Half} (h : w &&& mask = fixed)
    (hrow : (decodeNibbles (rowNib mask fixed w 3) (rowNib mask fixed w 2) (rowNib mask fixed w 1)
      (rowNib mask fixed w 0)).map Instr.row = some (mask, fixed)) :
    ∃ j, decode w = .ok j ∧ j.row = (mask, fixed) := by
  simp only [← nib_of_row h] at hrow
  obtain ⟨j, hj, hrow⟩ := Option.map_eq_some_iff.1 hrow
  exact ⟨j, by unfold decode; rw [hj], hrow⟩

/-- A word of a bank row has bit 7 set. -/
theorem msb_of_bank_row {w fixed : Half} (h : w &&& 0xF08F = fixed) (hf : nib fixed 1 = 8#4) :
    (nib w 1).msb = true := by
  have hbit : nib w 1 &&& 8#4 = 8#4 := (nib_and w _ 1).symm.trans ((congrArg (nib · 1) h).trans hf)
  revert hbit; generalize nib w 1 = c; revert c; decide

/-- A word of a row with one register field. -/
theorem decode_of_register_row {w fixed : Half} (h : w &&& 0xF0FF = fixed)
    (hrow : ∀ n, (decodeNibbles (nib fixed 3) n (nib fixed 1) (nib fixed 0)).map Instr.row = some (0xF0FF, fixed)) :
    ∃ j, decode w = .ok j ∧ j.row = (0xF0FF, fixed) :=
  decode_of_rowNib h (hrow (nib w 2))

/-- The decoder tests a bank row's bit 7 first, so the rows that share its bits 3:0 need bits 7:4 as a numeral. -/
theorem exists_decode_of_row {i : Instr} {w : Half} (h : w &&& i.row.1 = i.row.2) :
    ∃ j, decode w = .ok j ∧ j.row = i.row := by
  cases i <;> dsimp only [Instr.row] at h
  case stcBank | stcLBank | ldcBank | ldcLBank =>
    exact decode_of_rowNib h (congrArg (Option.map Instr.row) (if_pos (msb_of_bank_row h rfl)))
  case stcSr | stcGbr | stcVbr | stcSsr | stcSpc | stcLSr | stcLGbr | stcLVbr | stcLSsr | stcLSpc | ldcSr | ldcGbr
    | ldcVbr | ldcSsr | ldcSpc | ldcLSr | ldcLGbr | ldcLVbr | ldcLSsr | ldcLSpc =>
    exact decode_of_register_row h fun _ => rfl
  all_goals exact decode_of_rowNib h rfl

/-- Settles O5: two rows that share a word are the row of what the word decodes to. -/
theorem everyWordDecodesToItsRowOnly : Obligations.EveryWordDecodesToItsRowOnly := by
  refine ⟨?decodes, ?rejected, ?unique⟩
  case decodes =>
    intro w i h
    have hw : encode i = w := encode_of_decode h
    exact ⟨hw ▸ encode_mem_row i, hw⟩
  case rejected =>
    intro w h i hi
    obtain ⟨j, hj, _⟩ := exists_decode_of_row hi
    rw [h] at hj; cases hj
  case unique =>
    intro w i j hi hj
    obtain ⟨k, hk, hki⟩ := exists_decode_of_row hi
    obtain ⟨l, hl, hlj⟩ := exists_decode_of_row hj
    rw [hk] at hl; cases hl
    exact hki.symm.trans hlj

end Sys2Proof
end

section
/-! The undefined words (30 R129). In the groups 0000 and 0100 the low byte decides, but for the instructions without
an operand, whose bits 11:8 are 0; so R129's lists are checked one low byte at a time. -/

namespace Sys2Proof.Machine

/-! ## The lists of low bytes -/

/-- Every low byte, in order. -/
def lowBytes : List (BitVec 8) := (List.finRange 256).map BitVec.ofFin

theorem contains_filter_lowBytes (p : BitVec 8 → Bool) (x : BitVec 8) : (lowBytes.filter p).contains x = p x := by
  have hx : x ∈ lowBytes := List.mem_map.2 ⟨x.toFin, List.mem_finRange _, rfl⟩
  rw [Bool.eq_iff_iff, List.contains_iff_mem, List.mem_filter]
  exact and_iff_right hx

/-- No row of a group, read by bits 7:4 and 3:0, has the low byte `x`. -/
def noRow (group : BitVec 4 → BitVec 4 → Option Instr) (x : BitVec 8) : Bool := (group (nib x 1) (nib x 0)).isNone

theorem noRow_append (group : BitVec 4 → BitVec 4 → Option Instr) (c d : BitVec 4) :
    noRow group (c ++ d) = (group c d).isNone := by
  have hc : nib (c ++ d : BitVec (4 + 4)) 1 = c := BitVec.extractLsb'_append_eq_left
  have hd : nib (c ++ d : BitVec (4 + 4)) 0 = d := BitVec.extractLsb'_append_eq_right
  unfold noRow; rw [hc, hd]

theorem undefinedLow0_eq : undefinedLow0 = lowBytes.filter (noRow (decodeGroup0 0)) := by decide

theorem undefinedLow0NonZero_eq : undefinedLow0NonZero =
    lowBytes.filter fun x => !noRow (decodeGroup0 0) x && noRow (decodeGroup0 1) x := by decide

theorem undefinedLow4_eq : undefinedLow4 = lowBytes.filter (noRow (decodeGroup4 0)) := by decide

/-! ## Each group -/

/-- In group 0000 bits 11:8 matter only by being 0 or not. -/
theorem isNone_decodeGroup0_split (b c d : BitVec 4) : (decodeGroup0 b c d).isNone =
    ((decodeGroup0 0 c d).isNone || ((decodeGroup0 1 c d).isNone && decide (b ≠ 0))) := by
  fun_cases decodeGroup0 b c d <;> simp_all [decodeGroup0]

theorem isNone_decodeGroup0 (b c d : BitVec 4) : (decodeGroup0 b c d).isNone = undefinedWord 0x0 b c d := by
  show _ = (undefinedLow0.contains (c ++ d) || (undefinedLow0NonZero.contains (c ++ d) && decide (b ≠ 0)))
  rw [undefinedLow0_eq, undefinedLow0NonZero_eq, contains_filter_lowBytes, contains_filter_lowBytes, noRow_append,
    noRow_append, isNone_decodeGroup0_split]
  cases (decodeGroup0 0 c d).isNone <;> rfl

theorem isNone_decodeGroup2 (b c d : BitVec 4) : (decodeGroup2 b c d).isNone = undefinedWord 0x2 b c d := by
  show _ = decide (d = 0x3)
  fun_cases decodeGroup2 b c d
  case case16 => revert d; decide
  all_goals rfl

theorem isNone_decodeGroup3 (b c d : BitVec 4) : (decodeGroup3 b c d).isNone = undefinedWord 0x3 b c d := by
  show _ = (decide (d = 0x1) || decide (d = 0x9))
  fun_cases decodeGroup3 b c d
  case case15 => revert d; decide
  all_goals rfl

/-- In group 0100 bits 11:8 do not matter. -/
theorem isNone_decodeGroup4_low (b c d : BitVec 4) : (decodeGroup4 b c d).isNone = (decodeGroup4 0 c d).isNone := by
  fun_cases decodeGroup4 b c d <;> simp_all [decodeGroup4]

theorem isNone_decodeGroup4 (b c d : BitVec 4) : (decodeGroup4 b c d).isNone = undefinedWord 0x4 b c d := by
  show _ = undefinedLow4.contains (c ++ d)
  rw [undefinedLow4_eq, contains_filter_lowBytes, noRow_append, isNone_decodeGroup4_low]

theorem isNone_decodeGroup8 (b c d : BitVec 4) : (decodeGroup8 b c d).isNone = undefinedWord 0x8 b c d := by
  show _ = [0x2, 0x3, 0x6, 0x7, 0xA, 0xC, 0xE].contains b
  fun_cases decodeGroup8 b c d
  case case10 => revert b; decide
  all_goals rfl

theorem isNone_decodeNibbles (a b c d : BitVec 4) : (decodeNibbles a b c d).isNone = undefinedWord a b c d := by
  fun_cases decodeNibbles a b c d
  case case1 => exact isNone_decodeGroup0 b c d
  case case3 => exact isNone_decodeGroup2 b c d
  case case4 => exact isNone_decodeGroup3 b c d
  case case5 => exact isNone_decodeGroup4 b c d
  case case7 => fun_cases decodeGroup6 b c d <;> rfl
  case case9 => exact isNone_decodeGroup8 b c d
  case case13 => fun_cases decodeGroupC b c d <;> rfl
  case case16 =>
    obtain rfl : a = 0xF#4 := by revert a; decide
    rfl
  all_goals rfl

/-- The decoder rejects the words of R129's list and no other. -/
theorem decode_undefined_iff (a b c d : BitVec 4) :
    decode (nibbles a b c d) = .error .undefinedWord ↔ undefinedWord a b c d = true := by
  rw [← isNone_decodeNibbles, decode_nibbles]
  cases decodeNibbles a b c d with
  | none => exact ⟨fun _ => rfl, fun _ => rfl⟩
  | some i => exact ⟨nofun, nofun⟩

/-! ## Fetching one -/

theorem runWord_undefined {w : Half} (h : decode w = .error .undefinedWord) (s : State) :
    runWord w s = takeException .generalIllegalInstruction s := by
  unfold runWord; rw [h]

/-- Settles O11: the list, the step outside a slot, and the step of a pair. -/
theorem undefinedWordsAreTheListedOnesAndRaise : Obligations.UndefinedWordsAreTheListedOnesAndRaise := by
  refine ⟨decode_undefined_iff, ?raises, ?slot⟩
  case raises => exact fun s w hf h => (step_of_fetches hf).trans (runWord_undefined h s.fresh)
  case slot =>
    intro s u w v i t hf he hb hv h
    obtain ⟨hstep, hacc⟩ := step_of_branched hf he hb hv
    exact hstep.trans (runSlot_undefined hacc (hv.word.symm ▸ h))

end Sys2Proof.Machine
end

section
/-! The assembler's fields for labels (30 R125, R132): a label gets a field exactly when some field's target is the
label, and then that field. -/

namespace Sys2Proof

/-! ## When a distance gets a field -/

/-- Twice the field is the distance: the checks refuse exactly what no field holds. -/
theorem signedField_ok_iff {w : Nat} {n : Int} {d : BitVec w} (hw : 0 < w) :
    signedField w n = .ok d ↔ 2 * d.toInt = n := by
  have hlo := d.le_two_mul_toInt
  have hhi := d.two_mul_toInt_lt
  unfold signedField
  split
  · next hodd => exact ⟨nofun, fun h => by omega⟩
  · next heven =>
    split
    · next hrange =>
      have hpow : (2 : Int) ^ w = 2 ^ (w - 1) * 2 := (pow_sub_one_mul hw.ne' 2).symm
      have hdiv : (BitVec.ofInt w (n / 2)).toInt = n / 2 := BitVec.toInt_ofInt_eq_self hw (by omega) (by omega)
      rw [Except.ok.injEq, ← BitVec.toInt_inj, hdiv]
      omega
    · next hrange => exact ⟨nofun, fun h => absurd ⟨h ▸ hlo, h ▸ hhi⟩ hrange⟩

/-- The scaled field is the distance: the checks refuse exactly what no field holds. -/
theorem unsignedField_ok_iff {w scale n : Nat} {d : BitVec w} (hs : 0 < scale) :
    unsignedField w scale n = .ok d ↔ scale * d.toNat = n := by
  unfold unsignedField
  split
  · next hrem => exact ⟨nofun, fun h => absurd (h ▸ Nat.mul_mod_right scale _) hrem⟩
  · next hrem =>
    have hn : scale * (n / scale) = n := Nat.mul_div_cancel' (Nat.dvd_of_mod_eq_zero (not_not.1 hrem))
    split
    · next hrange =>
      rw [Except.ok.injEq, ← BitVec.toNat_inj, BitVec.toNat_ofNat, Nat.mod_eq_of_lt hrange]
      exact ⟨fun h => by rw [← h, hn], fun h => by rw [← h, Nat.mul_div_cancel_left _ hs]⟩
    · next hrange =>
      exact ⟨nofun, fun h => absurd (by rw [← h, Nat.mul_div_cancel_left _ hs]; exact d.isLt) hrange⟩

/-! ## The target of a field (R125) -/

theorem add_eq_iff_toInt {base y x : Word} : base + y = x ↔ y.toInt = (x - base).toInt := by
  rw [BitVec.toInt_inj, BitVec.eq_sub_iff_add_eq, BitVec.add_comm]

theorem add_eq_iff_toNat {base y x : Word} : base + y = x ↔ y.toNat = (x - base).toNat := by
  rw [BitVec.toNat_inj, BitVec.eq_sub_iff_add_eq, BitVec.add_comm]

/-- A scaled branch displacement does not wrap. -/
theorem toInt_two_mul_signExtend {w : Nat} (hw : w < 32) (d : BitVec w) :
    (2 * d.signExtend 32 : Word).toInt = 2 * d.toInt := by
  have hpow : (2 : Int) ^ w ≤ 2 ^ 31 := pow_le_pow_right₀ (by decide) (by omega)
  have hlo := d.le_two_mul_toInt
  have hhi := d.two_mul_toInt_lt
  rw [BitVec.toInt_mul, BitVec.toInt_signExtend_of_le (by omega), show (2 : Word).toInt = 2 by decide]
  exact Int.bmod_eq_of_le (by norm_num; omega) (by norm_num; omega)

/-- A scaled literal displacement does not wrap. -/
theorem toNat_mul_setWidth {scale : Word} (hs : scale.toNat ≤ 4) (d : BitVec 8) :
    (scale * d.setWidth 32 : Word).toNat = scale.toNat * d.toNat := by
  have hd := d.isLt
  have hmul : scale.toNat * d.toNat ≤ 4 * d.toNat := Nat.mul_le_mul_right _ hs
  rw [BitVec.toNat_mul, BitVec.toNat_setWidth, Nat.mod_eq_of_lt (show d.toNat < 2 ^ 32 by omega),
    Nat.mod_eq_of_lt (by omega)]

/-! ## Fields and labels -/

/-- A field reaches the label, and a refused label is out of every field's reach. -/
def Reaches {w : Nat} (field : Except OperandError (BitVec w)) (target : BitVec w → Word) (x : Word) : Prop :=
  (∀ d, field = .ok d → target d = x) ∧ ∀ e, field = .error e → ∀ d, target d ≠ x

theorem reaches_of_iff {w : Nat} {field : Except OperandError (BitVec w)} {target : BitVec w → Word} {x : Word}
    (h : ∀ d, field = .ok d ↔ target d = x) : Reaches field target x :=
  ⟨fun d => (h d).1, fun e he d ht => by rw [(h d).2 ht] at he; cases he⟩

theorem signedField_reaches {w : Nat} (h0 : 0 < w) (hw : w < 32) (base x : Word) :
    Reaches (signedField w (x - base).toInt) (fun d => base + 2 * d.signExtend 32) x :=
  reaches_of_iff fun d => by
    rw [signedField_ok_iff h0, add_eq_iff_toInt, toInt_two_mul_signExtend hw]

theorem unsignedField_reaches {scale : Word} (h0 : 0 < scale.toNat) (hs : scale.toNat ≤ 4) (base x : Word) :
    Reaches (unsignedField 8 scale.toNat (x - base).toNat) (fun d => base + scale * d.setWidth 32) x :=
  reaches_of_iff fun d => by
    rw [unsignedField_ok_iff h0, add_eq_iff_toNat, toNat_mul_setWidth hs]

/-- Settles O58: R125's base is PC + 4, or PC masked + 4 for the long literals. -/
theorem labelFieldsReachTheirLabels : Obligations.LabelFieldsReachTheirLabels :=
  ⟨fun pc x => signedField_reaches (by decide) (by decide) (pc + 4) x,
    fun pc x => signedField_reaches (by decide) (by decide) (pc + 4) x,
    fun pc x => unsignedField_reaches (scale := 2) (by decide) (by decide) (pc + 4) x,
    fun pc x => unsignedField_reaches (scale := 4) (by decide) (by decide) ((pc &&& 0xFFFFFFFC) + 4) x⟩

end Sys2Proof
end

section
/-! How an instruction that writes a register, T or a byte completes (00 R8), and the words of an immediate (30 R122). -/

namespace Sys2Proof.Machine

variable {i : Instr} {s : State}

/-- The word of a row whose low byte is a field. -/
theorem encodes_of_byte {a b : BitVec 4} {x : BitVec 8} (h : encode i = nibbles a b (nib x 1) (nib x 0)) :
    Encodes (a ++ b ++ x : BitVec (4 + 4 + 8)) i := by
  unfold Encodes; rw [← nibbles_byte, ← h]; exact decode_encode i

theorem Completes.imp {p q : State → Prop} (h : Completes i s p) (hpq : ∀ u, p u → q u) : Completes i s q := by
  obtain ⟨u, hu, hp⟩ := h
  exact ⟨u, hu, hpq u hp⟩

/-! ## A register, T -/

theorem completes_setR {n : Reg} {v : Word} (h : exec i s = .next (s.setR n v).advance) :
    Completes i s fun u => u.r n = v ∧ OnlyWrites [n] 0 s u :=
  ⟨_, h, by simp, OnlyWrites.setR s n v⟩

theorem completes_setT {b : Bool} {p : Prop} (h : exec i s = .next (s.setT b).advance) (hb : b = true ↔ p) :
    Completes i s fun u => (u.t = true ↔ p) ∧ OnlyWrites [] tBit s u :=
  ⟨_, h, by simpa using hb, OnlyWrites.setT s b⟩

theorem completes_setR_setT {n : Reg} {v : Word} {b : Bool} (h : exec i s = .next ((s.setR n v).setT b).advance) :
    Completes i s fun u => u.r n = v ∧ u.t = b ∧ OnlyWrites [n] tBit s u :=
  ⟨_, h, by simp, by simp, OnlyWrites.setR_setT s n v b⟩

/-! ## A byte read, and read then written (20 R86) -/

/-- The byte a byte read gives is the byte there. -/
theorem State.memRead_byte_setWidth (s : State) (a : Word) : (s.memRead .byte a).setWidth 8 = s.byteAt a := by
  rw [State.memRead_byte, BitVec.setWidth_setWidth_of_le _ (by decide), BitVec.setWidth_eq]

/-- One of the two accesses has no answer: the read-modify-write is no step (20 R92). -/
theorem State.modifyByte_not_modifiable {a : Word} (h : ¬Modifiable s a) (f : Byte → Byte)
    (k : Byte → State → Result) : s.modifyByte a f k = .fault .portNoAnswer := by
  unfold State.modifyByte
  cases hr : s.answers .read a 1 with
  | false => exact State.load_unanswered (Width.aligned_byte a) hr _
  | true =>
    have hw : s.answers .write a 1 = false := Bool.eq_false_iff.2 fun hw => h ⟨hr, hw⟩
    rw [State.load_accessible ⟨Width.aligned_byte a, hr⟩]
    exact State.store_unanswered (Width.aligned_byte a) hw _

/-- A byte stored in RAM, kept by a state with its memory. -/
theorem State.byteAt_of_setByte {u : State} {a : Word} (hk : Keeps s a 1) (v : Byte)
    (h : u.byteAt a = (s.setByte a v).byteAt a) : u.byteAt a = v := by
  obtain ⟨hwf, hram⟩ := hk
  rw [h, s.byteAt_setByte hwf (State.ram_at_first hram Nat.one_pos), if_pos rfl]

/-- AND.B, OR.B, XOR.B: the byte at `a` becomes `f` of itself. -/
theorem modifies_byte {a : Word} (f : Byte → Byte) (h : exec i s = s.modifyByte a f fun _ u => u.done) :
    (¬Modifiable s a → exec i s = .fault .portNoAnswer) ∧
    (Modifiable s a → Completes i s fun u =>
      (Keeps s a 1 → u.byteAt a = f (s.byteAt a)) ∧ OnlyStores .byte a [] 0 s u) :=
  ⟨fun hm => h.trans (State.modifyByte_not_modifiable hm f _), fun hm =>
    ⟨_, h.trans (State.modifyByte_modifiable hm f _), fun hk => State.byteAt_of_setByte hk _ rfl,
      OnlyStores.setByte s a _⟩⟩

/-- TAS.B: as `modifies_byte`, and T is a test of the byte read. -/
theorem modifies_byte_tests {a : Word} (f : Byte → Byte) (p : Byte → Prop) [DecidablePred p]
    (h : exec i s = s.modifyByte a f fun v u => (u.setT (decide (p v))).done) :
    (¬Modifiable s a → exec i s = .fault .portNoAnswer) ∧
    (Modifiable s a → Completes i s fun u => (u.t = true ↔ p (s.byteAt a)) ∧
      (Keeps s a 1 → u.byteAt a = f (s.byteAt a)) ∧ OnlyStores .byte a [] tBit s u) :=
  ⟨fun hm => h.trans (State.modifyByte_not_modifiable hm f _), fun hm =>
    ⟨_, h.trans (State.modifyByte_modifiable hm f _), by simp, fun hk => State.byteAt_of_setByte hk _ rfl,
      (OnlyStores.setByte s a _).setT _⟩⟩

/-- TST.B: T is a test of the byte read. -/
theorem tests_byte {a : Word} (p : Byte → Prop) [DecidablePred p]
    (h : exec i s = s.load .byte a fun v => (s.setT (decide (p (v.setWidth 8)))).done) :
    (s.answers .read a 1 = false → exec i s = .fault .portNoAnswer) ∧
    (s.answers .read a 1 = true → Completes i s fun u => (u.t = true ↔ p (s.byteAt a)) ∧ OnlyWrites [] tBit s u) := by
  refine ⟨fun ha => h.trans (State.load_unanswered (Width.aligned_byte a) ha _),
    fun ha => completes_setT ?_ decide_eq_true_iff⟩
  rw [h, State.load_accessible ⟨Width.aligned_byte a, ha⟩, State.memRead_byte_setWidth]
  rfl

end Sys2Proof.Machine
end

section
/-! What each flag computation of 40_arith_logic_compare.md says of its operands. -/

namespace Sys2Proof.Machine

/-! ## Carry and borrow (R203, R206, R209) -/

theorem carryOut_iff (sum : Nat) : carryOut sum = true ↔ 2 ^ 32 ≤ sum := decide_eq_true_iff

theorem borrowOut_iff (diff : Int) : borrowOut diff = true ↔ diff < 0 := decide_eq_true_iff

theorem addcSum_eq (x y : Word) (t : Bool) : addcSum x y t = x.toNat + y.toNat + (if t then 1 else 0) := rfl

theorem subcDiff_eq (x y : Word) (t : Bool) : subcDiff x y t = (x.toNat : Int) - y.toNat - (if t then 1 else 0) := by
  unfold subcDiff bitNat; split <;> rfl

/-- A difference wraps to its residue. -/
theorem toNat_ofInt_eq_emod (diff : Int) : ((BitVec.ofInt 32 diff).toNat : Int) = diff % 2 ^ 32 := by
  rw [BitVec.toNat_ofInt, Int.toNat_of_nonneg (Int.emod_nonneg _ (by decide))]; rfl

/-! ## Signed overflow (R204, R207): by the signs, and by the exact result -/

theorem addOverflow_iff (x y : Word) : addOverflow x y = true ↔ x.msb = y.msb ∧ (x + y).msb ≠ x.msb := by
  unfold addOverflow; rw [Bool.and_eq_true, decide_eq_true_iff, decide_eq_true_iff]

theorem subOverflow_iff (x y : Word) : subOverflow x y = true ↔ x.msb ≠ y.msb ∧ (x - y).msb ≠ x.msb := by
  unfold subOverflow; rw [Bool.and_eq_true, decide_eq_true_iff, decide_eq_true_iff]

theorem addOverflow_eq_saddOverflow (x y : Word) : addOverflow x y = x.saddOverflow y := by
  rw [BitVec.saddOverflow_eq]; unfold addOverflow
  cases x.msb <;> cases y.msb <;> cases (x + y).msb <;> rfl

theorem subOverflow_eq_ssubOverflow (x y : Word) : subOverflow x y = x.ssubOverflow y := by
  rw [BitVec.ssubOverflow_eq]; unfold subOverflow
  cases x.msb <;> cases y.msb <;> cases (x - y).msb <;> rfl

theorem addOverflow_iff_toInt (x y : Word) : addOverflow x y = true ↔ (x + y).toInt ≠ x.toInt + y.toInt := by
  rw [addOverflow_eq_saddOverflow]
  refine ⟨fun h he => ?_, fun h => by_contra fun hn => h (BitVec.toInt_add_of_not_saddOverflow hn)⟩
  have hlo := BitVec.le_toInt (x + y)
  have hhi := BitVec.toInt_lt (x := x + y)
  simp only [BitVec.saddOverflow, Bool.or_eq_true, decide_eq_true_iff] at h
  omega

theorem subOverflow_iff_toInt (x y : Word) : subOverflow x y = true ↔ (x - y).toInt ≠ x.toInt - y.toInt := by
  rw [subOverflow_eq_ssubOverflow]
  refine ⟨fun h he => ?_, fun h => by_contra fun hn => h (BitVec.toInt_sub_of_not_ssubOverflow hn)⟩
  have hlo := BitVec.le_toInt (x - y)
  have hhi := BitVec.toInt_lt (x := x - y)
  simp only [BitVec.ssubOverflow, Bool.or_eq_true, decide_eq_true_iff] at h
  omega

/-! ## Comparisons and tests (R215 to R223, R234, R235) -/

theorem cmpEq_iff (x y : Word) : cmpEq x y = true ↔ x = y := decide_eq_true_iff
theorem cmpHs_iff (x y : Word) : cmpHs x y = true ↔ y.toNat ≤ x.toNat := decide_eq_true_iff
theorem cmpGe_iff (x y : Word) : cmpGe x y = true ↔ y.toInt ≤ x.toInt := decide_eq_true_iff
theorem cmpHi_iff (x y : Word) : cmpHi x y = true ↔ y.toNat < x.toNat := decide_eq_true_iff
theorem cmpGt_iff (x y : Word) : cmpGt x y = true ↔ y.toInt < x.toInt := decide_eq_true_iff
theorem tstZero_iff (x y : Word) : tstZero x y = true ↔ x &&& y = 0 := decide_eq_true_iff

/-- A byte of the XOR is 0 when the bytes are equal. -/
theorem byteOf_xor_eq_zero_iff (x y : Word) (k : Nat) : byteOf (x ^^^ y) k = 0 ↔ byteOf x k = byteOf y k := by
  unfold byteOf; rw [BitVec.extractLsb'_xor]; exact BitVec.xor_eq_zero_iff

theorem cmpStr_iff (x y : Word) : cmpStr x y = true ↔ ∃ k : Fin 4, byteOf x k = byteOf y k := by
  simp only [cmpStr, Bool.or_eq_true, decide_eq_true_iff, byteOf_xor_eq_zero_iff]
  constructor
  · rintro (((h | h) | h) | h)
    exacts [⟨3, h⟩, ⟨2, h⟩, ⟨1, h⟩, ⟨0, h⟩]
  · rintro ⟨k, h⟩
    fin_cases k
    exacts [.inr h, .inl (.inr h), .inl (.inl (.inr h)), .inl (.inl (.inl h))]

end Sys2Proof.Machine
end

section
/-! Arithmetic, compare and logic instructions (40_arith_logic_compare.md), a clause for each. -/

namespace Sys2Proof.Machine

/-- Settles O18: four writes of R[n]. -/
theorem addAndSubtractWrapAndWriteNoFlag : Obligations.AddAndSubtractWrapAndWriteNoFlag :=
  ⟨fun m n _ => ⟨decode_encode (.add m n), completes_setR rfl⟩,
    fun _ _ _ => ⟨encodes_of_byte rfl, completes_setR rfl⟩,
    fun m n _ => ⟨decode_encode (.sub m n), completes_setR rfl⟩,
    fun m n _ => ⟨decode_encode (.neg m n), completes_setR rfl⟩⟩

/-- SUBC, NEGC: an exact difference, wrapped into R[n], its borrow into T (R206, R209). -/
theorem completes_borrow {i : Instr} {s : State} {n : Reg} {x y : Word} {diff : Int}
    (h : exec i s = .next ((s.setR n (BitVec.ofInt 32 (subcDiff x y s.t))).setT (borrowOut (subcDiff x y s.t))).advance)
    (hd : subcDiff x y s.t = diff) :
    Completes i s fun u => ((u.r n).toNat : Int) = diff % 2 ^ 32 ∧ (u.t = true ↔ diff < 0) ∧ OnlyWrites [n] tBit s u := by
  subst hd
  exact (completes_setR_setT h).imp fun u ⟨hr, ht, hw⟩ =>
    ⟨by rw [hr, toNat_ofInt_eq_emod], by rw [ht, borrowOut_iff], hw⟩

/-- Settles O19: the flag of each computation as an exact integer says it. -/
theorem carryBorrowOverflowAndDecrementSetT : Obligations.CarryBorrowOverflowAndDecrementSetT := by
  refine ⟨?addc, ?subc, ?negc, ?addv, ?subv, ?dt⟩
  case addc =>
    intro m n s
    refine ⟨decode_encode (.addc m n), (completes_setR_setT rfl).imp fun u ⟨hr, ht, hw⟩ => ⟨?_, ?_, hw⟩⟩
    · rw [hr, BitVec.toNat_ofNat, addcSum_eq]
    · rw [ht, carryOut_iff, addcSum_eq]
  case subc => exact fun m n s => ⟨decode_encode (.subc m n), completes_borrow rfl (subcDiff_eq _ _ _)⟩
  case negc => exact fun m n s => ⟨decode_encode (.negc m n), completes_borrow (x := 0) rfl (subcDiff_eq 0 _ _)⟩
  case addv =>
    exact fun m n s => ⟨decode_encode (.addv m n), (completes_setR_setT rfl).imp fun u ⟨hr, ht, hw⟩ =>
      ⟨hr, ht ▸ addOverflow_iff _ _, ht ▸ addOverflow_iff_toInt _ _, hw⟩⟩
  case subv =>
    exact fun m n s => ⟨decode_encode (.subv m n), (completes_setR_setT rfl).imp fun u ⟨hr, ht, hw⟩ =>
      ⟨hr, ht ▸ subOverflow_iff _ _, ht ▸ subOverflow_iff_toInt _ _, hw⟩⟩
  case dt =>
    exact fun n s => ⟨decode_encode (.dt n), (completes_setR_setT rfl).imp fun u ⟨hr, ht, hw⟩ =>
      ⟨hr, by rw [hr, ht, decide_eq_true_iff], hw⟩⟩

/-- Settles O20: writes of R[n], or R[0] for an immediate; the model cuts the low byte or word by `setWidth`. -/
theorem extensionsAndLogicOnRegisters : Obligations.ExtensionsAndLogicOnRegisters := by
  unfold Obligations.ExtensionsAndLogicOnRegisters
  simp only [← BitVec.setWidth_eq_extractLsb' (show 8 ≤ 32 by decide),
    ← BitVec.setWidth_eq_extractLsb' (show 16 ≤ 32 by decide)]
  exact ⟨fun m n _ => ⟨decode_encode (.extsB m n), completes_setR rfl⟩,
    fun m n _ => ⟨decode_encode (.extsW m n), completes_setR rfl⟩,
    fun m n _ => ⟨decode_encode (.extuB m n), completes_setR rfl⟩,
    fun m n _ => ⟨decode_encode (.extuW m n), completes_setR rfl⟩,
    fun m n _ => ⟨decode_encode (.andReg m n), completes_setR rfl⟩,
    fun _ _ => ⟨encodes_of_byte rfl, completes_setR rfl⟩,
    fun m n _ => ⟨decode_encode (.orReg m n), completes_setR rfl⟩,
    fun _ _ => ⟨encodes_of_byte rfl, completes_setR rfl⟩,
    fun m n _ => ⟨decode_encode (.xorReg m n), completes_setR rfl⟩,
    fun _ _ => ⟨encodes_of_byte rfl, completes_setR rfl⟩,
    fun m n _ => ⟨decode_encode (.notReg m n), completes_setR rfl⟩⟩

/-- Settles O21: each is a write of T with its comparison or test. -/
theorem comparesAndTestsWriteOnlyT : Obligations.ComparesAndTestsWriteOnlyT :=
  ⟨fun m n _ => ⟨decode_encode (.cmpEq m n), completes_setT rfl (cmpEq_iff _ _)⟩,
    fun _ _ => ⟨encodes_of_byte rfl, completes_setT rfl (cmpEq_iff _ _)⟩,
    fun m n _ => ⟨decode_encode (.cmpHs m n), completes_setT rfl (cmpHs_iff _ _)⟩,
    fun m n _ => ⟨decode_encode (.cmpGe m n), completes_setT rfl (cmpGe_iff _ _)⟩,
    fun m n _ => ⟨decode_encode (.cmpHi m n), completes_setT rfl (cmpHi_iff _ _)⟩,
    fun m n _ => ⟨decode_encode (.cmpGt m n), completes_setT rfl (cmpGt_iff _ _)⟩,
    fun n _ => ⟨decode_encode (.cmpPz n), completes_setT rfl (cmpGe_iff _ 0)⟩,
    fun n _ => ⟨decode_encode (.cmpPl n), completes_setT rfl (cmpGt_iff _ 0)⟩,
    fun m n _ => ⟨decode_encode (.cmpStr m n), completes_setT rfl (cmpStr_iff _ _)⟩,
    fun m n _ => ⟨decode_encode (.tst m n), completes_setT rfl (tstZero_iff _ _)⟩,
    fun _ _ => ⟨encodes_of_byte rfl, completes_setT rfl (tstZero_iff _ _)⟩⟩

/-- Settles O22: four read-modify-writes, the last with a test of the byte read, and a byte read. -/
theorem byteOperationsInMemory : Obligations.ByteOperationsInMemory :=
  ⟨fun i _ => ⟨encodes_of_byte rfl, modifies_byte (· &&& i) rfl⟩,
    fun i _ => ⟨encodes_of_byte rfl, modifies_byte (· ||| i) rfl⟩,
    fun i _ => ⟨encodes_of_byte rfl, modifies_byte (· ^^^ i) rfl⟩,
    fun n _ => ⟨decode_encode (.tasB n), modifies_byte_tests (· ||| 0x80) (· = 0) rfl⟩,
    fun i _ => ⟨encodes_of_byte rfl, tests_byte (· &&& i = 0) rfl⟩⟩

end Sys2Proof.Machine
end

section
/-! The value of each shift and rotate (41_shift_rotate.md): the concatenations of R301 to R304 and R311 to R314,
the multiples and quotients of R305 to R310, and the cases of R315 and R316. -/

namespace Sys2Proof.Machine

/-! ## One bit (R301 to R304, R311 to R314) -/

theorem shiftLeft_one (x : Word) : x <<< 1 = x.extractLsb' 0 31 ++ 0#1 :=
  BitVec.shiftLeft_eq_concat_of_lt (by decide)

theorem ushiftRight_one (x : Word) : x >>> 1 = 0#1 ++ x.extractLsb' 1 31 :=
  BitVec.ushiftRight_eq_extractLsb'_of_lt (by decide)

theorem bitWord_eq_append (b : Bool) : bitWord b = 0#31 ++ BitVec.ofBool b := by cases b <;> rfl

theorem bitWord_shiftLeft_eq_append (b : Bool) : bitWord b <<< 31 = BitVec.ofBool b ++ 0#31 := by cases b <;> rfl

/-- ROTL, ROTCL: the bits move left and `b` enters bit 0. -/
theorem shiftLeft_one_or_bitWord (x : Word) (b : Bool) :
    x <<< 1 ||| bitWord b = x.extractLsb' 0 31 ++ BitVec.ofBool b := by
  rw [shiftLeft_one, bitWord_eq_append, BitVec.or_append, BitVec.or_zero, BitVec.zero_or]

/-- ROTR, ROTCR: the bits move right and `b` enters bit 31. -/
theorem ushiftRight_one_or_bitWord (x : Word) (b : Bool) :
    x >>> 1 ||| bitWord b <<< 31 = BitVec.ofBool b ++ x.extractLsb' 1 31 := by
  rw [ushiftRight_one, bitWord_shiftLeft_eq_append, BitVec.or_append, BitVec.or_zero, BitVec.zero_or]

/-- The bit shifted out, as the field of one bit the rules concatenate. -/
theorem ofBool_getLsbD (x : Word) (k : Nat) : BitVec.ofBool (x.getLsbD k) = x.extractLsb' k 1 := by
  ext i hi
  obtain rfl : i = 0 := by omega
  simp

/-- SHAR: bit 31 is kept, and enters bit 30. -/
theorem sshiftRight_one (x : Word) : x.sshiftRight 1 = x.extractLsb' 31 1 ++ x.extractLsb' 1 31 := by
  refine BitVec.eq_of_getLsbD_eq fun k hk => ?_
  rw [BitVec.getLsbD_sshiftRight, BitVec.getLsbD_append]
  by_cases h : k < 31
  · have h1 : 1 + k < 32 := by omega
    simp [h, h1, hk]
  · obtain rfl : k = 31 := by omega
    simp [BitVec.msb_eq_getLsbD_last]

/-- ROTL: the bit shifted out of bit 31 enters bit 0. -/
theorem shiftLeft_one_or_msb (x : Word) :
    x <<< 1 ||| bitWord x.msb = x.extractLsb' 0 31 ++ x.extractLsb' 31 1 := by
  rw [shiftLeft_one_or_bitWord, BitVec.msb_eq_getLsbD_last, ofBool_getLsbD]

/-- ROTR: the bit shifted out of bit 0 enters bit 31. -/
theorem ushiftRight_one_or_lsb (x : Word) :
    x >>> 1 ||| bitWord (x.getLsbD 0) <<< 31 = x.extractLsb' 0 1 ++ x.extractLsb' 1 31 := by
  rw [ushiftRight_one_or_bitWord, ofBool_getLsbD]

/-! ## Several bits (R305 to R310) -/

theorem toNat_shiftLeft_eq_mul (x : Word) (k : Nat) : (x <<< k).toNat = x.toNat * 2 ^ k % 2 ^ 32 := by
  rw [BitVec.toNat_shiftLeft, Nat.shiftLeft_eq]

theorem toNat_ushiftRight_eq_div (x : Word) (k : Nat) : (x >>> k).toNat = x.toNat / 2 ^ k := by
  rw [BitVec.toNat_ushiftRight, Nat.shiftRight_eq_div_pow]

theorem toInt_sshiftRight_eq_div (x : Word) (k : Nat) : (x.sshiftRight k).toInt = x.toInt / 2 ^ k := by
  rw [BitVec.toInt_sshiftRight, Int.shiftRight_eq_div_pow, Nat.cast_pow, Nat.cast_ofNat]

/-! ## The dynamic shifts (R315, R316), each case of the sign and of the low five bits of `count` -/

section
variable {x count : Word}

theorem shadValue_left (h : count.msb = false) : shadValue x count = x <<< (count.toNat % 32) := by
  simp [shadValue, h]

theorem shadValue_signs (h : count.msb = true) (hc : count.toNat % 32 = 0) :
    shadValue x count = if x.msb then 0xFFFFFFFF else 0 := by
  simp [shadValue, h, hc]

theorem shadValue_right (h : count.msb = true) (hc : count.toNat % 32 ≠ 0) :
    shadValue x count = x.sshiftRight (32 - count.toNat % 32) := by
  simp [shadValue, h, hc]

theorem shldValue_left (h : count.msb = false) : shldValue x count = x <<< (count.toNat % 32) := by
  simp [shldValue, h]

theorem shldValue_zero (h : count.msb = true) (hc : count.toNat % 32 = 0) : shldValue x count = 0 := by
  simp [shldValue, h, hc]

theorem shldValue_right (h : count.msb = true) (hc : count.toNat % 32 ≠ 0) :
    shldValue x count = x >>> (32 - count.toNat % 32) := by
  simp [shldValue, h, hc]

end

end Sys2Proof.Machine
end

section
/-! Shift and rotate instructions (41_shift_rotate.md), a clause for each. -/

namespace Sys2Proof.Machine

/-- R300: a one-bit shift or rotate writes its value, as any rule spells it, and the bit shifted out. -/
theorem completes_shiftOut {i : Instr} {s : State} {n : Reg} {v v' : Word} {out : Bool}
    (h : exec i s = s.shiftOut n v out) (hv : v = v') :
    Completes i s fun u => u.r n = v' ∧ u.t = out ∧ OnlyWrites [n] tBit s u :=
  hv ▸ completes_setR_setT h

/-- Settles O23: eight writes of R[n] and T, each value a concatenation of R[n] and the bit that enters. -/
theorem oneBitShiftsAndRotates : Obligations.OneBitShiftsAndRotates :=
  ⟨fun n _ => ⟨decode_encode (.shll n), completes_shiftOut rfl (shiftLeft_one _)⟩,
    fun n _ => ⟨decode_encode (.shlr n), completes_shiftOut rfl (ushiftRight_one _)⟩,
    fun n _ => ⟨decode_encode (.shal n), completes_shiftOut rfl (shiftLeft_one _)⟩,
    fun n _ => ⟨decode_encode (.shar n), completes_shiftOut rfl (sshiftRight_one _)⟩,
    fun n _ => ⟨decode_encode (.rotl n), completes_shiftOut rfl (shiftLeft_one_or_msb _)⟩,
    fun n _ => ⟨decode_encode (.rotr n), completes_shiftOut rfl (ushiftRight_one_or_lsb _)⟩,
    fun n _ => ⟨decode_encode (.rotcl n), completes_shiftOut rfl (shiftLeft_one_or_bitWord _ _)⟩,
    fun n _ => ⟨decode_encode (.rotcr n), completes_shiftOut rfl (ushiftRight_one_or_bitWord _ _)⟩⟩

theorem completes_shiftLeft {i : Instr} {s : State} {n : Reg} (k : Nat)
    (h : exec i s = .next (s.setR n (s.r n <<< k)).advance) :
    Completes i s fun u => (u.r n).toNat = (s.r n).toNat * 2 ^ k % 2 ^ 32 ∧ OnlyWrites [n] 0 s u :=
  (completes_setR h).imp fun _ ⟨hr, hw⟩ => ⟨hr ▸ toNat_shiftLeft_eq_mul _ k, hw⟩

theorem completes_ushiftRight {i : Instr} {s : State} {n : Reg} (k : Nat)
    (h : exec i s = .next (s.setR n (s.r n >>> k)).advance) :
    Completes i s fun u => (u.r n).toNat = (s.r n).toNat / 2 ^ k ∧ OnlyWrites [n] 0 s u :=
  (completes_setR h).imp fun _ ⟨hr, hw⟩ => ⟨hr ▸ toNat_ushiftRight_eq_div _ k, hw⟩

/-- Settles O24: eight writes of R[n] alone; SHAD and SHLD by the sign of R[m] and whether its count is 0. -/
theorem multiBitAndDynamicShiftsWriteNoFlag : Obligations.MultiBitAndDynamicShiftsWriteNoFlag := by
  refine ⟨?shll2, ?shlr2, ?shll8, ?shlr8, ?shll16, ?shlr16, ?shad, ?shld⟩
  case shll2 => exact fun n _ => ⟨decode_encode (.shll2 n), completes_shiftLeft 2 rfl⟩
  case shlr2 => exact fun n _ => ⟨decode_encode (.shlr2 n), completes_ushiftRight 2 rfl⟩
  case shll8 => exact fun n _ => ⟨decode_encode (.shll8 n), completes_shiftLeft 8 rfl⟩
  case shlr8 => exact fun n _ => ⟨decode_encode (.shlr8 n), completes_ushiftRight 8 rfl⟩
  case shll16 => exact fun n _ => ⟨decode_encode (.shll16 n), completes_shiftLeft 16 rfl⟩
  case shlr16 => exact fun n _ => ⟨decode_encode (.shlr16 n), completes_ushiftRight 16 rfl⟩
  case shad =>
    refine fun m n s => ⟨decode_encode (.shad m n), (completes_setR rfl).imp fun u ⟨hr, hw⟩ => ?_⟩
    rw [hr]
    exact ⟨shadValue_left, shadValue_signs,
      fun h hc => by rw [shadValue_right h hc, toInt_sshiftRight_eq_div], hw⟩
  case shld =>
    refine fun m n s => ⟨decode_encode (.shld m n), (completes_setR rfl).imp fun u ⟨hr, hw⟩ => ?_⟩
    rw [hr]
    exact ⟨shldValue_left, shldValue_zero,
      fun h hc => by rw [shldValue_right h hc, toNat_ushiftRight_eq_div], hw⟩

end Sys2Proof.Machine
end

section
/-! Frames of writes of several flags (10 R36), and the rows of the division step (42 R353). -/

namespace Sys2Proof.Machine

/-! ## A write of several flags -/

section
variable {l : List Reg} {f g : Word} {s u x : State}

/-- A frame holds with more flags named. -/
theorem SameSystem.mono (hfg : f ||| g = g) (h : SameSystem f s u) : SameSystem g s u :=
  { h with
    status := by
      have hnot : ~~~g = ~~~f &&& ~~~g := by rw [← BitVec.not_or, hfg]
      rw [hnot, ← BitVec.and_assoc, h.status, BitVec.and_assoc] }

theorem OnlyWrites.mono_flags (hfg : f ||| g = g) (h : OnlyWrites l f s u) : OnlyWrites l g s u :=
  { h with system := h.system.mono hfg }

/-- A write among the flags already named, after the instruction's other writes. -/
theorem OnlyWrites.trans_flag (h : OnlyWrites l f s u) (hpc : x.pc = u.pc) (hr : ∀ k, x.r k = u.r k)
    (hb : ∀ b, x.rBank b = u.rBank b) (hf : SameSystem f u x) (hm : ∀ a, x.byteAt a = u.byteAt a) :
    OnlyWrites l f s x :=
  ⟨hpc.trans h.pc, fun k hk => (hr k).trans (h.general k hk), fun b => (hb b).trans (h.banks b),
    h.system.trans hf, fun a => (hm a).trans (h.memory a)⟩

theorem OnlyWrites.and_setT (h : OnlyWrites l f s u) (hf : f.getLsbD 0 = true) (v : Bool) :
    OnlyWrites l f s (u.setT v) :=
  h.trans_flag rfl (State.setT_r u v) (State.setT_rBank u v) (SameSystem.setT hf u v) fun _ => rfl

theorem OnlyWrites.and_setQ (h : OnlyWrites l f s u) (hf : f.getLsbD 8 = true) (v : Bool) :
    OnlyWrites l f s (u.setQ v) :=
  h.trans_flag rfl (State.setQ_r u v) (State.setQ_rBank u v) (SameSystem.setQ hf u v) fun _ => rfl

theorem OnlyWrites.and_setM (h : OnlyWrites l f s u) (hf : f.getLsbD 9 = true) (v : Bool) :
    OnlyWrites l f s (u.setM v) :=
  h.trans_flag rfl (State.setM_r u v) (State.setM_rBank u v) (SameSystem.setM hf u v) fun _ => rfl

end

/-- DIV0U, DIV0S: the three flags, in either order of Q and M. -/
theorem OnlyWrites.setM_setQ_setT (s : State) (d q t : Bool) :
    OnlyWrites [] (mBit ||| qBit ||| tBit) s (((s.setM d).setQ q).setT t).advance :=
  ((((OnlyWrites.done s).mono_flags (by decide)).and_setM (by decide) d).and_setQ (by decide) q).and_setT (by decide) t

theorem OnlyWrites.setQ_setM_setT (s : State) (q d t : Bool) :
    OnlyWrites [] (mBit ||| qBit ||| tBit) s (((s.setQ q).setM d).setT t).advance :=
  ((((OnlyWrites.done s).mono_flags (by decide)).and_setQ (by decide) q).and_setM (by decide) d).and_setT (by decide) t

/-- DIV1: a general register, Q and T. -/
theorem OnlyWrites.setR_setQ_setT (s : State) (n : Reg) (v : Word) (q t : Bool) :
    OnlyWrites [n] (qBit ||| tBit) s (((s.setR n v).setQ q).setT t).advance :=
  (((OnlyWrites.setR s n v).mono_flags (by decide)).and_setQ (by decide) q).and_setT (by decide) t

/-! ## The rows of R353 -/

/-- The partial remainder shifted left by one, T entering bit 0. -/
def divShift (rn : Word) (t : Bool) : Word := (rn <<< 1) ||| (if t then 1 else 0)

/-- What a row writes for its result `r` and its carry or borrow `c`. -/
def divRow (rn : Word) (m : Bool) (r : Word) (c : Bool) : DivStep :=
  { rn := r, q := rn.msb ^^ m ^^ c, t := decide ((rn.msb ^^ m ^^ c) = m) }

section
variable {rn rm : Word} {q m t : Bool}

/-- Rows (0, 0) and (1, 1). -/
theorem div1Step_subtract (h : q = m) :
    div1Step rn rm q m t = divRow rn m (divShift rn t - rm) (decide ((divShift rn t).toNat < rm.toNat)) := by
  simp [div1Step, divRow, divShift, h]

/-- Rows (0, 1) and (1, 0). -/
theorem div1Step_add (h : q ≠ m) :
    div1Step rn rm q m t =
      divRow rn m (divShift rn t + rm) (decide (2 ^ 32 ≤ (divShift rn t).toNat + rm.toNat)) := by
  simp [div1Step, divRow, divShift, carryOut, h]

end

/-- The reference's form of the new Q: for each M and bit shifted out, the carry or its complement. -/
theorem divQ_eq_ite (msb m c : Bool) :
    (msb ^^ m ^^ c) = if m = false then (if msb then !c else c) else (if msb then c else !c) := by
  cases m <;> cases msb <;> simp

end Sys2Proof.Machine
end

section
/-! Division instructions (42_division.md), a clause for each. -/

namespace Sys2Proof.Machine

theorem completes_div0u (s : State) :
    Completes .div0u s fun u =>
      u.m = false ∧ u.q = false ∧ u.t = false ∧ OnlyWrites [] (mBit ||| qBit ||| tBit) s u :=
  ⟨_, rfl, by simp, by simp, by simp, OnlyWrites.setM_setQ_setT s _ _ _⟩

theorem completes_div0s (m n : Reg) (s : State) :
    Completes (.div0s m n) s fun u => u.q = (s.r n).msb ∧ u.m = (s.r m).msb ∧ (u.t = true ↔ u.m ≠ u.q) ∧
      OnlyWrites [] (mBit ||| qBit ||| tBit) s u :=
  ⟨_, rfl, by simp, by simp, by simp, OnlyWrites.setQ_setM_setT s _ _ _⟩

/-- DIV1 writes what its step says (R353). -/
theorem exec_div1 {m n : Reg} {s : State} {step : DivStep} (h : div1Step (s.r n) (s.r m) s.q s.m s.t = step) :
    exec (.div1 m n) s = .next (((s.setR n step.rn).setQ step.q).setT step.t).advance := by
  subst h; rfl

/-- A DIV1 whose step is a row of R353: the row's result, Q in both spellings, and T. -/
theorem completes_div1 {m n : Reg} {s : State} {r : Word} {c : Bool}
    (h : div1Step (s.r n) (s.r m) s.q s.m s.t = divRow (s.r n) s.m r c) :
    Completes (.div1 m n) s fun u =>
      u.r n = r ∧ u.q = ((s.r n).msb ^^ s.m ^^ c) ∧ (u.t = true ↔ u.q = s.m) ∧
      (u.q = if s.m = false then (if (s.r n).msb then !c else c) else (if (s.r n).msb then c else !c)) ∧
      OnlyWrites [n] (qBit ||| tBit) s u := by
  refine ⟨_, exec_div1 h, by simp [divRow], by simp [divRow], by simp [divRow], ?rows, OnlyWrites.setR_setQ_setT s n _ _ _⟩
  case rows => rw [← divQ_eq_ite]; simp [divRow]

/-- Settles O25: three flags for the initialisations; DIV1 subtracts where Q = M and adds where not. -/
theorem divisionInitialisationAndStep : Obligations.DivisionInitialisationAndStep := by
  refine ⟨fun s => ⟨decode_encode .div0u, completes_div0u s⟩,
    fun m n s => ⟨decode_encode (.div0s m n), completes_div0s m n s⟩,
    fun m n s => ⟨decode_encode (.div1 m n), ?row00, ?row01, ?row10, ?row11⟩⟩
  case row00 => exact fun hq hm => completes_div1 (div1Step_subtract (hq.trans hm.symm))
  case row01 => exact fun hq hm => completes_div1 (div1Step_add (by simp [hq, hm]))
  case row10 => exact fun hq hm => completes_div1 (div1Step_add (by simp [hq, hm]))
  case row11 => exact fun hq hm => completes_div1 (div1Step_subtract (hq.trans hm.symm))

end Sys2Proof.Machine
end

section
/-! The values of 43_multiply_accumulate.md: exact products, the clamp of R371 and the new MAC of R377 and R378. -/

namespace Sys2Proof.Machine

/-! ## Exact products (R372, R373, R375, R376) -/

/-- The product of two signed values fits in twice their width. -/
theorem toInt_ofInt_mul {w : Nat} (hw : 0 < w) (x y : BitVec w) :
    (BitVec.ofInt (w * 2) (x.toInt * y.toInt)).toInt = x.toInt * y.toInt := by
  have hlo := BitVec.le_toInt_mul_toInt (x := x) (y := y)
  have hhi := BitVec.toInt_mul_toInt_le (x := x) (y := y)
  have hlt : (2 : Int) ^ (w * 2 - 2) < 2 ^ (w * 2 - 1) := pow_lt_pow_right₀ (by decide) (by omega)
  exact BitVec.toInt_ofInt_eq_self (by omega) (by omega) (by omega)

/-- The product of two unsigned values fits in twice their width. -/
theorem toNat_ofNat_mul {w : Nat} (x y : BitVec w) :
    (BitVec.ofNat (w * 2) (x.toNat * y.toNat)).toNat = x.toNat * y.toNat :=
  BitVec.toNat_ofNat _ _ ▸ Nat.mod_eq_of_lt BitVec.toNat_mul_toNat_lt

/-! ## Saturation (R371) -/

theorem clamp_eq_max_min {lo hi : Int} (h : lo ≤ hi) (x : Int) : clamp x lo hi = max lo (min hi x) := by
  unfold clamp
  split
  · omega
  · split <;> omega

/-- A value clamped to the signed range of `w` bits is what those bits read as. -/
theorem toInt_ofInt_clamp {w v : Nat} (hw : 0 < w) (hwv : w ≤ v) (x : Int) :
    (BitVec.ofInt v (max (-2 ^ (w - 1)) (min (2 ^ (w - 1) - 1) x))).toInt =
      max (-2 ^ (w - 1)) (min (2 ^ (w - 1) - 1) x) := by
  have hpos : (0 : Int) < 2 ^ (w - 1) := Int.pow_pos (by decide)
  have hmono : (2 : Int) ^ (w - 1) ≤ 2 ^ (v - 1) := pow_le_pow_right₀ (by decide) (by omega)
  exact BitVec.toInt_ofInt_eq_self (by omega) (by omega) (by omega)

/-! ## MAC.L (R377) -/

section
variable (mac : BitVec 64) (p : Int)

theorem macLResult_wraps : macLResult mac p false = BitVec.ofInt 64 (mac.toInt + p) := rfl

/-- The clamped sum in 64 bits is the sign extension of its low 48 bits. -/
theorem macLResult_saturates : macLResult mac p true =
    (BitVec.ofInt 48 (max (-2 ^ 47) (min (2 ^ 47 - 1) ((mac.extractLsb' 0 48).toInt + p)))).signExtend 64 := by
  have hclamp := clamp_eq_max_min (show s48Min ≤ s48Max by decide) ((mac.extractLsb' 0 48).toInt + p)
  have hread := toInt_ofInt_clamp (w := 48) (v := 48) (by decide) le_rfl ((mac.extractLsb' 0 48).toInt + p)
  exact congrArg (BitVec.ofInt 64) (hclamp.trans hread.symm)

/-! ## MAC.W (R378) -/

theorem macWResult_wraps (mode : MacwSat) : macWResult mode mac p false = BitVec.ofInt 64 (mac.toInt + p) := rfl

theorem macWResult_doc64 :
    (macWResult .doc64 mac p true).toInt = max (-2 ^ 31) (min (2 ^ 31 - 1) (mac.toInt + p)) := by
  have hclamp := clamp_eq_max_min (show s32Min ≤ s32Max by decide) (mac.toInt + p)
  exact (congrArg (fun z => (BitVec.ofInt 64 z).toInt) hclamp).trans
    (toInt_ofInt_clamp (w := 32) (v := 64) (by decide) (by decide) _)

theorem macWResult_maclOnly_high : (macWResult .maclOnly mac p true).extractLsb' 32 32 = mac.extractLsb' 32 32 :=
  extractHigh_append _ _

theorem macWResult_maclOnly_low : ((macWResult .maclOnly mac p true).extractLsb' 0 32).toInt =
    max (-2 ^ 31) (min (2 ^ 31 - 1) ((mac.extractLsb' 0 32).toInt + p)) := by
  have hclamp := clamp_eq_max_min (show s32Min ≤ s32Max by decide) ((mac.extractLsb' 0 32).toInt + p)
  have hlow := extractLow_append (mac.extractLsb' 32 32)
    (BitVec.ofInt 32 (clamp ((mac.extractLsb' 0 32).toInt + p) s32Min s32Max))
  exact (congrArg BitVec.toInt (hlow.trans (congrArg (BitVec.ofInt 32) hclamp))).trans
    (toInt_ofInt_clamp (w := 32) (v := 32) (by decide) le_rfl _)

end

end Sys2Proof.Machine
end

section
/-! How MAC.L and MAC.W run, for either width (R377, R378): two reads, each checked before anything is written,
then the pointers and MAC. -/

namespace Sys2Proof.Machine

variable {i : Instr} {s : State} {w : Width} {m n : Reg}

/-! ## The two reads -/

/-- Where the second operand is read. -/
def State.macSecond (s : State) (w : Width) (m n : Reg) : Word := if m = n then s.r n + Width.size w else s.r m

theorem State.macOperands_eq (k : Word → Word → Result) :
    s.macOperands w m n k = s.load w (s.r n) fun vn => s.load w (s.macSecond w m n) fun vm => k vn vm := rfl

/-- The first read is checked first, and the second one once the first is through. -/
theorem guarded_macOperands {k : Word → Word → Result} (h : exec i s = s.macOperands w m n k) :
    Guarded .read w (s.r n) i s ∧
    (Accessible s .read w (s.r n) → Guarded .read w (s.macSecond w m n) i s ∧
      (Accessible s .read w (s.macSecond w m n) →
        exec i s = k (s.memRead w (s.r n)) (s.memRead w (s.macSecond w m n)))) := by
  rw [State.macOperands_eq] at h
  refine ⟨Guarded.of_load h, fun hn => ?_⟩
  have hsecond := h.trans (State.load_accessible hn _)
  exact ⟨Guarded.of_load hsecond, fun hm => hsecond.trans (State.load_accessible hm _)⟩

/-! ## The pointers and MAC -/

theorem State.macPointers_same (s : State) (w : Width) (n : Reg) :
    s.macPointers w n n = s.setR n (s.r n + Width.size w + Width.size w) := if_pos rfl

theorem State.macPointers_ne (s : State) (w : Width) (h : m ≠ n) :
    s.macPointers w m n = (s.setR n (s.r n + Width.size w)).setR m (s.r m + Width.size w) := if_neg h

/-- A write of MAC and the pointers' increments commute. -/
theorem State.macPointers_with_mac (s : State) (w : Width) (m n : Reg) (v : BitVec 64) :
    ({ s.macPointers w m n with mac := v } : State) = State.macPointers { s with mac := v } w m n := by
  by_cases h : m = n
  · subst h
    rw [State.macPointers_same, State.macPointers_same]
    exact State.setR_with_mac s m _ v
  · rw [State.macPointers_ne s w h, State.macPointers_ne _ w h, State.setR_with_mac, State.setR_with_mac]
    rfl

@[simp] theorem State.macPointers_mac (s : State) (w : Width) (m n : Reg) : (s.macPointers w m n).mac = s.mac := by
  unfold State.macPointers
  split <;> simp

theorem OnlyWrites.macPointers (s : State) (w : Width) (m n : Reg) :
    OnlyWrites [m, n] 0 s (s.macPointers w m n).advance := by
  by_cases h : m = n
  · subst h
    rw [State.macPointers_same]
    exact (OnlyWrites.setR s m _).mono (by simp)
  · rw [State.macPointers_ne s w h]
    exact (OnlyWrites.setR_setR s n m _ _).mono (by simp)

/-- The pointers advanced and MAC written, nothing else. -/
theorem completes_macPointers {v : BitVec 64} (h : exec i s = (s.macPointers w m n).macDone v) :
    Completes i s fun u => u.mac = v ∧ (m = n → u.r n = s.r n + (Width.size w + Width.size w)) ∧
      (m ≠ n → u.r n = s.r n + Width.size w ∧ u.r m = s.r m + Width.size w) ∧
      OnlyWrites [m, n] 0 { s with mac := u.mac } u := by
  have hexec : exec i s = .next (State.macPointers { s with mac := v } w m n).advance :=
    h.trans (congrArg State.done (State.macPointers_with_mac s w m n v))
  have hmac : (State.macPointers { s with mac := v } w m n).advance.mac = v := by simp
  refine ⟨_, hexec, hmac, ?same, ?distinct, ?frame⟩
  case same =>
    rintro rfl
    rw [State.macPointers_same, State.advance_r, State.setR_r, if_pos rfl]
    exact BitVec.add_assoc _ _ _
  case distinct =>
    intro hmn
    rw [State.macPointers_ne _ w hmn]
    simp only [State.advance_r, State.setR_r, if_true, if_neg (Ne.symm hmn)]
    exact ⟨rfl, rfl⟩
  case frame =>
    rw [hmac]
    exact OnlyWrites.macPointers _ w m n

end Sys2Proof.Machine
end

section
/-! Multiply and accumulate instructions (43_multiply_accumulate.md), a clause for each. -/

namespace Sys2Proof.Machine

section
variable {i : Instr} {s : State}

theorem completes_mac {v : BitVec 64} (h : exec i s = s.macDone v) :
    Completes i s fun u => u.mac = v ∧ OnlyWrites [] 0 { s with mac := u.mac } u :=
  ⟨_, h, rfl, OnlyWrites.done { s with mac := v }⟩

theorem completes_setMacl {v : Word} (h : exec i s = (s.setMacl v).done) :
    Completes i s fun u => u.macl = v ∧ u.mach = s.mach ∧ OnlyWrites [] 0 { s with mac := u.mac } u :=
  ⟨_, h, by simp, by simp, OnlyWrites.done (s.setMacl v)⟩

end

/-- Settles O26: writes of MAC or of MACL; the products fit in their 64 or 32 bits. -/
theorem multipliesWriteMacOrMacl : Obligations.MultipliesWriteMacOrMacl := by
  unfold Obligations.MultipliesWriteMacOrMacl
  simp only [← BitVec.setWidth_eq_extractLsb' (show 16 ≤ 32 by decide)]
  refine ⟨fun m n s => ⟨decode_encode (.dmulsL m n), ?dmuls⟩, fun m n s => ⟨decode_encode (.dmuluL m n), ?dmulu⟩,
    fun m n s => ⟨decode_encode (.mulL m n), ?mul⟩, fun m n s => ⟨decode_encode (.mulsW m n), ?muls⟩,
    fun m n s => ⟨decode_encode (.muluW m n), ?mulu⟩, fun s => ⟨decode_encode .clrmac, ?clr⟩⟩
  case dmuls => exact (completes_mac rfl).imp fun u ⟨hv, hw⟩ => ⟨hv ▸ toInt_ofInt_mul (by decide) _ _, hw⟩
  case dmulu => exact (completes_mac rfl).imp fun u ⟨hv, hw⟩ => ⟨hv ▸ toNat_ofNat_mul _ _, hw⟩
  case mul => exact (completes_setMacl rfl).imp fun u ⟨hv, hw⟩ => ⟨hv ▸ BitVec.toNat_mul _ _, hw⟩
  case muls => exact (completes_setMacl rfl).imp fun u ⟨hv, hw⟩ => ⟨hv ▸ toInt_ofInt_mul (by decide) _ _, hw⟩
  case mulu =>
    refine (completes_setMacl rfl).imp fun u ⟨hv, hw⟩ => ⟨?_, hw⟩
    rw [hv, ← BitVec.toNat_setWidth, ← BitVec.toNat_setWidth]
    exact toNat_ofNat_mul _ _
  case clr =>
    exact (completes_mac (v := 0) rfl).imp fun u ⟨hv, hw⟩ =>
      ⟨congrArg (BitVec.extractLsb' 32 32) hv, congrArg (BitVec.extractLsb' 0 32) hv, hw⟩

theorem exec_macL (m n : Reg) (s : State) : exec (.macL m n) s = s.macOperands .long m n fun vn vm =>
    (s.macPointers .long m n).macDone (macLResult s.mac (vn.toInt * vm.toInt) s.s) := rfl

theorem exec_macW (m n : Reg) (s : State) : exec (.macW m n) s = s.macOperands .word m n fun vn vm =>
    (s.macPointers .word m n).macDone
      (macWResult s.params.macwSat s.mac ((vn.setWidth 16).toInt * (vm.setWidth 16).toInt) s.s) := rfl

/-- Settles O27: the frame of the two reads at each width, with the values of R377 and R378. -/
theorem macLongAndWordAccumulate : Obligations.MacLongAndWordAccumulate := by
  refine ⟨fun m n s => ⟨decode_encode (.macL m n), ?long⟩, fun m n s => ⟨decode_encode (.macW m n), ?word⟩⟩
  case long =>
    obtain ⟨hfirst, hthen⟩ := guarded_macOperands (exec_macL m n s)
    refine ⟨hfirst, fun hn => ?_⟩
    obtain ⟨hsecond, hexec⟩ := hthen hn
    refine ⟨hsecond.misaligned, hsecond.unanswered, fun hm =>
      (completes_macPointers (hexec hm)).imp fun u ⟨hv, hsame, hne, hw⟩ =>
        ⟨⟨fun hs => ?wraps, fun hs => ?saturates⟩, hsame, hne, hw⟩⟩
    case wraps => rw [hv, hs]; exact macLResult_wraps _ _
    case saturates => rw [hv, hs]; exact macLResult_saturates _ _
  case word =>
    obtain ⟨hfirst, hthen⟩ := guarded_macOperands (exec_macW m n s)
    refine ⟨hfirst, fun hn => ?_⟩
    obtain ⟨hsecond, hexec⟩ := hthen hn
    refine ⟨hsecond.misaligned, hsecond.unanswered, fun hm =>
      (completes_macPointers (hexec hm)).imp fun u ⟨hv, hsame, hne, hw⟩ =>
        ⟨⟨fun hs => ?wraps, fun hs hmode => ?doc64, fun hs hmode => ?maclOnly⟩, hsame, hne, hw⟩⟩
    case wraps => rw [hv, hs]; exact macWResult_wraps _ _ _
    case doc64 => rw [hv, hs, hmode]; exact macWResult_doc64 _ _
    case maclOnly =>
      unfold State.mach State.macl
      rw [hv, hs, hmode]
      exact ⟨macWResult_maclOnly_high _ _, macWResult_maclOnly_low _ _⟩

/-- Settles O28: each half keeps what the other's write leaves. -/
theorem macHalvesRoundTrip : Obligations.MacHalvesRoundTrip := by
  intro x y n s
  refine ⟨_, rfl, _, rfl, ?both, ⟨_, rfl, ?mach⟩, ⟨_, rfl, ?macl⟩⟩
  case both =>
    show (s.setMach (s.r x)).mach ++ (s.setMach (s.r x)).r y = s.r x ++ s.r y
    rw [State.setMach_mach, State.setMach_r]
  case mach => simp
  case macl => simp

end Sys2Proof.Machine
end

section
/-! The step of a pair (44 R401 to R406): it is the run of the slot instruction from the state the branch leaves. -/

namespace Sys2Proof.Machine

/-! ## The pair's two states -/

section Pair
variable {i j : Instr} {s u x : State} {w v : Half} {t : Word} {e : Exc}

/-- PC stays at the branch until the slot has run (log 8). -/
theorem Branched.pc_eq (hs : s.ds = .normal) (h : Branched i s u t) : u.pc = s.pc := by
  rw [(h.writes hs).1]; rfl

theorem Branched.params_eq (hs : s.ds = .normal) (h : Branched i s u t) : u.params = s.params := by
  rw [(h.writes hs).1]; rfl

/-- An exception of the slot instruction is taken from the state before the branch (R405). -/
theorem Branched.takeException_eq (hs : s.ds = .normal) (h : Branched i s u t) (e : Exc) (a : Word) :
    takeException e { u with pc := a } = takeException e s.fresh := by
  have hfresh : s.fresh.undoBranch = s.fresh := State.undoBranch_normal (s := s.fresh) hs
  exact takeException_undo ((h.undo hs a).trans hfresh.symm)

/-! ## The slot's run -/

/-- The controller passes on what taking an exception answers: DS is Normal after it (R405). -/
theorem runSlotInstr_takeException (hi : slotIllegal j = false)
    (hp : ¬(pcRelative j = true ∧ u.params.slotPcRel = .fault))
    (h : exec j { u with pc := u.pc + 2 } = takeException e { u with pc := u.pc + 2 }) :
    runSlotInstr j u = takeException e { u with pc := u.pc + 2 } := by
  rcases takeException_cases e { u with pc := u.pc + 2 } with ⟨_, he⟩ | ⟨_, _, he⟩ | ⟨_, _, he⟩
  · exact (runSlotInstr_exception hi hp (h.trans he) (takeException_keeps he).1).trans he.symm
  · exact (runSlotInstr_fault hi hp (h.trans he)).trans he.symm
  · exact (runSlotInstr_exception hi hp (h.trans he) (takeException_keeps he).1).trans he.symm

/-- A PC-relative instruction is no slot-illegal one (R403, R404). -/
theorem PcRelativeSet.slotIllegal_eq (h : PcRelativeSet j) : slotIllegal j = false := by
  obtain ⟨d, n, hmem⟩ := h
  simp only [List.mem_cons, List.not_mem_nil, or_false] at hmem
  rcases hmem with rfl | rfl | rfl <;> rfl

end Pair

section PairStep
variable {i j : Instr} {s u x : State} {w v : Half} {t : Word}
  (hf : Fetches s w) (he : Encodes w i) (hb : Branched i s u t) (hv : SlotHolds u v)
include hf he hb hv

/-- An undefined word in the slot (R403). -/
theorem step_of_slot_undefined (hd : decode v = .error .undefinedWord) : step s = .fault .slotIllegal := by
  obtain ⟨hstep, ha⟩ := step_of_branched hf he hb hv
  rw [hstep]
  exact runSlot_undefined ha (hv.word ▸ hd)

/-- The step of a pair whose slot word decodes. -/
theorem step_of_slot (hj : Encodes v j) : step s = runSlotInstr j u := by
  obtain ⟨hstep, ha⟩ := step_of_branched hf he hb hv
  rw [hstep]
  exact runSlot_decode ha (hv.word ▸ hj)

/-- A PC-relative instruction in the slot, where that is a fault (R404). -/
theorem step_of_slot_pcRelative (hj : Encodes v j) (hset : PcRelativeSet j) (hp : s.params.slotPcRel = .fault) :
    step s = .fault .slotPcRelative := by
  rw [step_of_slot hf he hb hv hj]
  exact runSlotInstr_pcRelative hset.slotIllegal_eq ((pcRelative_iff j).1 hset) (hb.params_eq hf.slot ▸ hp)

/-- The slot instruction ends in `next`: the target the branch left is installed (R401, R406). -/
theorem step_of_slot_next (hj : Encodes v j) (hi : slotIllegal j = false)
    (hp : ¬(pcRelative j = true ∧ s.params.slotPcRel = .fault)) (hx : exec j { u with pc := s.pc + 2 } = .next x)
    (hds : x.ds = u.ds) : step s = .next { x with pc := t, ds := .normal } := by
  obtain ⟨undo, hpending⟩ := hb.2
  rw [← hb.params_eq hf.slot] at hp
  rw [← hb.pc_eq hf.slot] at hx
  rw [step_of_slot hf he hb hv hj]
  exact runSlotInstr_next hi hp hx (hds.trans hpending)

/-- The slot instruction writes one general register and ends in `next` (R404). -/
theorem step_of_slot_setR {n : Reg} {value : Word} (hj : Encodes v j) (hi : slotIllegal j = false)
    (hp : s.params.slotPcRel = .slotAddress)
    (h : exec j { u with pc := s.pc + 2 } = .next (State.setR { u with pc := s.pc + 2 } n value).advance) :
    ∃ y, step s = .next y ∧ y.r n = value ∧ y.pc = t := by
  have hallowed : ¬(pcRelative j = true ∧ s.params.slotPcRel = .fault) :=
    fun ⟨_, hfault⟩ => nomatch hp.symm.trans hfault
  refine ⟨_, step_of_slot_next hf he hb hv hj hi hallowed h (by simp), ?_, rfl⟩
  show (State.setR { u with pc := s.pc + 2 } n value).advance.r n = value
  simp

end PairStep

/-- Settles O8: each clause is one of the ways the slot's run ends. -/
theorem delaySlotControllerRunsThePair : Obligations.DelaySlotControllerRunsThePair := by
  intro s u w v i t hf he hb hv
  refine ⟨step_of_slot_undefined hf he hb hv, fun j hj => ⟨?illegal, ?fpu, ?pcRelative, ?runs⟩⟩
  case illegal =>
    intro hset
    rw [step_of_slot hf he hb hv hj]
    exact runSlotInstr_slotIllegal ((slotIllegal_iff j).1 hset) u
  case fpu =>
    intro hset
    obtain ⟨hrefused, hi, hr⟩ := exec_fpu hset { u with pc := u.pc + 2 }
    have hp : ¬(pcRelative j = true ∧ u.params.slotPcRel = .fault) := fun ⟨h, _⟩ => nomatch hr.symm.trans h
    rw [step_of_slot hf he hb hv hj]
    exact runSlotInstr_refused hi hp hrefused
  case pcRelative => exact step_of_slot_pcRelative hf he hb hv hj
  case runs =>
    intro hlegal hallowed
    have hi : slotIllegal j = false := Bool.eq_false_iff.2 fun h => hlegal ((slotIllegal_iff j).2 h)
    have hp : ¬(pcRelative j = true ∧ s.params.slotPcRel = .fault) := by rwa [pcRelative_iff] at hallowed
    refine ⟨fun x => step_of_slot_next hf he hb hv hj hi hp, ?exception, ?fault⟩
    all_goals
      rw [← hb.params_eq hf.slot] at hp
      rw [← hb.pc_eq hf.slot, step_of_slot hf he hb hv hj]
    case exception =>
      exact fun e h => (runSlotInstr_takeException hi hp h).trans (hb.takeException_eq hf.slot e _)
    case fault => exact fun f h => runSlotInstr_fault hi hp h

/-! ## PC-relative slot instructions (R404) -/

/-- The value a load writes is the loaded value (45 R451). -/
theorem extendLoaded_memRead (s : State) (w : Width) (a : Word) :
    extendLoaded w (s.memRead w a) = loadedValue s w a := by
  cases w <;> rfl

/-- The word form's base at the slot's own address (R404, R406). -/
theorem slot_wordAddress (b : Word) (d : BitVec 8) : b + 2 + 4 + 2 * zext8 d = b + 6 + 2 * d.setWidth 32 := by
  rw [BitVec.add_assoc b 2 4]; rfl

/-- Settles O9: each form writes one register, from the address its rule gives at PC = b + 2. -/
theorem pcRelativeInstructionInASlot : Obligations.PcRelativeInstructionInASlot := by
  intro s u w v i t d n hf he hb hv
  refine ⟨?fault, fun hp => ⟨?mova, ?long, ?word⟩⟩
  case fault =>
    rintro (hj | hj | hj)
    all_goals exact step_of_slot_pcRelative hf he hb hv hj ⟨d, n, by simp⟩
  case mova => exact fun hj => step_of_slot_setR hf he hb hv hj rfl hp rfl
  case long =>
    intro hj ha
    rw [← extendLoaded_memRead]
    exact step_of_slot_setR hf he hb hv hj rfl hp
      (State.loadTo_accessible (s := { u with pc := s.pc + 2 }) (w := .long) ha n)
  case word =>
    intro hj ha
    rw [← slot_wordAddress] at ha ⊢
    rw [← extendLoaded_memRead]
    exact step_of_slot_setR hf he hb hv hj rfl hp
      (State.loadTo_accessible (s := { u with pc := s.pc + 2 }) (w := .word) ha n)

end Sys2Proof.Machine
end

section
/-! How a branch completes (44 R410 to R421): it jumps, or it enters the pending state and writes at most PR or SR. -/

namespace Sys2Proof.Machine

variable {i : Instr} {s : State} {target : Word}

/-- The word of a row whose low twelve bits are a field (30 R122). -/
theorem encodes_of_twelve {a : BitVec 4} {x : BitVec 12} (h : encode i = nibbles a (nib x 2) (nib x 1) (nib x 0)) :
    Encodes (a ++ x : BitVec (4 + 12)) i := by
  unfold Encodes; rw [← nibbles_twelve, ← h]; exact decode_encode i

theorem OnlyMoves.of_eq {u : State} (hpc : s.pc = target) (h : u = s) : OnlyMoves target s u := by
  subst h
  exact ⟨hpc, fun _ _ => rfl, fun _ => rfl, SameSystem.refl 0 u, fun _ => rfl⟩

theorem OnlyMoves.jump (s : State) (target : Word) : OnlyMoves target s { s with pc := target } :=
  ⟨rfl, fun _ _ => rfl, fun _ => rfl, by constructor <;> rfl, fun _ => rfl⟩

/-- BF, BT: no delay slot (00 R8). -/
theorem completes_jump (h : exec i s = s.jump target) : Completes i s (OnlyMoves target s) :=
  ⟨_, h, OnlyMoves.jump s target⟩

/-- A delayed branch that writes DS only (R401). -/
theorem completes_delayed (h : exec i s = s.delayed s target) :
    Completes i s fun u => (∃ undo, u.ds = .pending target undo) ∧ OnlyMoves s.pc { s with ds := u.ds } u :=
  ⟨_, h, ⟨_, rfl⟩, OnlyMoves.of_eq rfl rfl⟩

/-- BSR, BSRF, JSR: PR is written before the slot (R416). -/
theorem completes_call (h : exec i s = s.delayed { s with pr := s.afterSlot } target) :
    Completes i s fun u => u.pr = s.pc + 4 ∧ (∃ undo, u.ds = .pending target undo) ∧
      OnlyMoves s.pc { s with ds := u.ds, pr := u.pr } u :=
  ⟨_, h, rfl, ⟨_, rfl⟩, OnlyMoves.of_eq rfl rfl⟩

theorem exec_bf (d : BitVec 8) (s : State) :
    exec (.bf d) s = s.jump (if s.t then s.pc + 2 else s.pc + 4 + 2 * d.signExtend 32) :=
  (apply_ite s.jump _ _ _).symm

theorem exec_bt (d : BitVec 8) (s : State) :
    exec (.bt d) s = s.jump (if s.t then s.pc + 4 + 2 * d.signExtend 32 else s.pc + 2) :=
  (apply_ite s.jump _ _ _).symm

/-- Settles O29: two jumps, six branches that write DS only, three calls. -/
theorem branchesAndCallsReachTheirTargets : Obligations.BranchesAndCallsReachTheirTargets :=
  ⟨fun d s => ⟨encodes_of_byte rfl, completes_jump (exec_bf d s)⟩,
    fun d s => ⟨encodes_of_byte rfl, completes_jump (exec_bt d s)⟩,
    fun _ _ => ⟨encodes_of_byte rfl, completes_delayed rfl⟩,
    fun _ _ => ⟨encodes_of_byte rfl, completes_delayed rfl⟩,
    fun _ _ => ⟨encodes_of_twelve rfl, completes_delayed rfl⟩,
    fun n _ => ⟨decode_encode (.braf n), completes_delayed rfl⟩,
    fun n _ => ⟨decode_encode (.jmp n), completes_delayed rfl⟩,
    fun _ => ⟨decode_encode .rts, completes_delayed rfl⟩,
    fun _ _ => ⟨encodes_of_twelve rfl, completes_call rfl⟩,
    fun n _ => ⟨decode_encode (.bsrf n), completes_call rfl⟩,
    fun n _ => ⟨decode_encode (.jsr n), completes_call rfl⟩⟩

/-- R421 behind the check of 47 R585. -/
theorem exec_rte (s : State) : exec .rte s = s.privileged (s.delayed (s.setSr s.ssr) s.spc) := rfl

/-- Settles O30: where permitted, SR is masked as every whole SR write is (10 R37) and SPC is the pending target. -/
theorem returnFromExceptionRestoresSr : Obligations.ReturnFromExceptionRestoresSr := by
  refine fun s => ⟨decode_encode .rte, fun hp => ?permitted, fun hp hds => ?denied⟩
  case permitted =>
    exact ⟨_, (exec_rte s).trans (State.privileged_permitted hp _), rfl, ⟨_, rfl⟩, OnlyMoves.of_eq rfl rfl⟩
  case denied =>
    rw [exec_rte, State.privileged_denied hp, State.inSlot_normal hds]
    rfl

end Sys2Proof.Machine
end

section
/-! How a load, a store and their pointer forms run, for every width (45 R450, R451): the access is checked before
anything is written, then the value and the pointer are. -/

namespace Sys2Proof.Machine

variable {i : Instr} {s : State} {w : Width} {a v : Word} {m n : Reg}

/-! ## Effective addresses of the byte forms: a displacement in bytes is not scaled (30 R125) -/

theorem State.eaDisp_byte (s : State) (n : Reg) (d : BitVec 4) : s.eaDisp .byte n d = s.r n + d.setWidth 32 :=
  congrArg (s.r n + ·) (BitVec.one_mul _)

theorem State.eaGbr_byte (s : State) (d : BitVec 8) : s.eaGbr .byte d = s.gbr + d.setWidth 32 :=
  congrArg (s.gbr + ·) (BitVec.one_mul _)

/-! ## One access -/

/-- The loaded value is the one written (R451). -/
theorem LoadsFrom.of_loadTo (h : exec i s = s.loadTo w a n) : LoadsFrom w a n i s := by
  refine ⟨Guarded.of_load h, fun ha => ?_⟩
  rw [← extendLoaded_memRead]
  exact completes_setR (h.trans (State.loadTo_accessible ha n))

theorem StoresAt.of_storeTo (h : exec i s = s.storeTo w a v) : StoresAt w a v i s :=
  ⟨Guarded.of_store h, fun ha => ⟨_, h.trans (State.storeTo_accessible ha v),
    fun hk => (Holds.memWrite hk v).congr rfl rfl rfl, OnlyStores.memWrite s w a v⟩⟩

/-- `@-Rn`: the stored value is the one before the decrement, which is written after the store (R462 to R464). -/
theorem Pushes.of_storePre (h : exec i s = s.storePre w n v) : Pushes w n v i s := by
  refine ⟨Guarded.of_store h, fun ha =>
    ⟨_, h.trans (State.storePre_accessible ha v), ?pointer, fun hk => ?bytes, ?frame⟩⟩
  case pointer => rw [State.advance_r, State.setR_r, if_pos rfl]; rfl
  case bytes =>
    exact (Holds.memWrite hk v).congr (State.setR_mem _ n _) (State.setR_params _ n _) (State.setR_ticks _ n _)
  case frame => exact OnlyStores.memWrite_setR s w _ v n _

/-! ## A register and its pointer: with one register for both, the loaded value wins (R451) -/

theorem completes_setR_pointer {x : Word}
    (h : exec i s = .next ((if m = n then s else s.setR m x).setR n v).advance) :
    Completes i s fun u => u.r n = v ∧ (m ≠ n → u.r m = x) ∧ OnlyWrites [m, n] 0 s u := by
  refine ⟨_, h, by simp, fun hmn => ?pointer, ?frame⟩
  case pointer => rw [if_neg hmn, State.advance_r, State.setR_r, if_neg hmn, State.setR_r, if_pos rfl]
  case frame =>
    by_cases hmn : m = n
    · rw [if_pos hmn]
      exact (OnlyWrites.setR s n v).mono (by simp)
    · rw [if_neg hmn]
      exact OnlyWrites.setR_setR s m n x v

/-- `@Rm+` (R465 to R467). -/
theorem guarded_loadPost (h : exec i s = s.loadPost w m n) :
    Guarded .read w (s.r m) i s ∧
    (Accessible s .read w (s.r m) → Completes i s fun u => u.r n = loadedValue s w (s.r m) ∧
      (m ≠ n → u.r m = s.r m + Width.size w) ∧ OnlyWrites [m, n] 0 s u) := by
  refine ⟨Guarded.of_load h, fun ha => ?_⟩
  rw [← extendLoaded_memRead]
  exact completes_setR_pointer (h.trans (State.loadPost_accessible ha n))

end Sys2Proof.Machine
end

section
/-! The linked pair MOVLI.L, MOVCO.L and the unaligned loads MOVUA.L (45 R492 to R495). -/

namespace Sys2Proof.Machine

variable {i : Instr} {s : State} {a : Word} {m n : Reg}

/-! ## LDST -/

/-- A store and a write of LDST commute. -/
theorem State.memWrite_with_ldst (s : State) (w : Width) (a v : Word) (x : Bool) :
    ({ s.memWrite w a v with ldst := x } : State) = State.memWrite { s with ldst := x } w a v := by
  unfold State.memWrite
  cases w with
  | byte => rfl
  | word | long => cases s.params.endian <;> rfl

theorem State.with_ldst_eq_self {x : Bool} (h : s.ldst = x) : ({ s with ldst := x } : State) = s := by subst h; rfl

theorem exec_movliL (m : Reg) (s : State) :
    exec (.movliL m) s = s.load .long (s.r m) fun v => State.done { s.setR 0 v with ldst := true } := rfl

/-- MOVLI.L (R492): the load is checked as any long load is, and LDST is written with R[0]. -/
theorem completes_movliL (ha : Accessible s .read .long (s.r m)) :
    Completes (.movliL m) s fun u => u.r 0 = s.memRead .long (s.r m) ∧ u.ldst = true ∧
      OnlyWrites [0] 0 { s with ldst := u.ldst } u := by
  have hexec : exec (.movliL m) s =
      .next (State.setR { s with ldst := true } 0 (s.memRead .long (s.r m))).advance :=
    ((exec_movliL m s).trans (State.load_accessible ha _)).trans (congrArg State.done (State.setR_with_ldst s 0 _ true))
  have hldst : (State.setR { s with ldst := true } 0 (s.memRead .long (s.r m))).advance.ldst = true := by simp
  refine ⟨_, hexec, by simp, hldst, ?_⟩
  rw [hldst]
  exact OnlyWrites.setR _ 0 _

/-- MOVCO.L with LDST = 1 is a store (R493). -/
theorem exec_movcoL_linked (h : s.ldst = true) : exec (.movcoL n) s =
    s.store .long (s.r n) (s.r 0) fun s' => State.done { s'.setT true with ldst := false } := if_pos h

/-- MOVCO.L with LDST = 0 makes no access, and LDST stays 0 (R493). -/
theorem exec_movcoL_unlinked (h : s.ldst = false) : exec (.movcoL n) s = .next (s.setT false).advance :=
  (if_neg (Bool.eq_false_iff.1 h)).trans (congrArg State.done (State.with_ldst_eq_self (s := s.setT false) h))

theorem completes_movcoL_linked (h : s.ldst = true) (ha : Accessible s .write .long (s.r n)) :
    Completes (.movcoL n) s fun u => (Keeps s (s.r n) 4 → Holds u .long (s.r n) (s.r 0)) ∧ u.t = true ∧
      u.ldst = false ∧ OnlyStores .long (s.r n) [] tBit { s with ldst := u.ldst } u := by
  have hexec : exec (.movcoL n) s =
      .next ((State.memWrite { s with ldst := false } .long (s.r n) (s.r 0)).setT true).advance :=
    ((exec_movcoL_linked h).trans (State.store_accessible ha _)).trans
      (congrArg (fun x => State.done (x.setT true)) (State.memWrite_with_ldst s .long (s.r n) (s.r 0) false))
  refine ⟨_, hexec, fun hk => ?bytes, by simp, by simp, ?frame⟩
  case bytes =>
    have hunlinked : Keeps { s with ldst := false } (s.r n) (Width.bytes .long) := hk
    exact (Holds.memWrite hunlinked (s.r 0)).congr rfl rfl rfl
  case frame =>
    have hldst : ((State.memWrite { s with ldst := false } .long (s.r n) (s.r 0)).setT true).advance.ldst = false := by
      simp
    rw [hldst]
    exact (OnlyStores.memWrite _ .long (s.r n) (s.r 0)).setT true

/-! ## Any alignment -/

theorem exec_movuaL (m : Reg) (s : State) :
    exec (.movuaL m) s = s.readUnaligned (s.r m) fun v => (s.setR 0 v).done := rfl

theorem exec_movuaLPost (m : Reg) (s : State) : exec (.movuaLPost m) s = s.readUnaligned (s.r m) fun v =>
    ((if m = 0 then s else s.setR m (s.r m + 4)).setR 0 v).done := rfl

/-- Only the port's answer is checked (R494). -/
theorem exec_of_readUnaligned {k : Word → Result} (h : exec i s = s.readUnaligned a k) :
    (s.answers .read a 4 = false → exec i s = .fault .portNoAnswer) ∧
    (s.answers .read a 4 = true → exec i s = k (s.memRead .long a)) := by
  refine ⟨fun ha => h.trans ?_, fun ha => h.trans (State.readUnaligned_answered ha k)⟩
  exact if_neg (Bool.eq_false_iff.1 ha)

end Sys2Proof.Machine
end

section
/-! Load, store and data movement instructions (45_load_store.md), a clause for each. -/

namespace Sys2Proof.Machine

/-- Settles O33: twelve stores, each at its effective address. -/
theorem storesReachOnlyTheirBytes : Obligations.StoresReachOnlyTheirBytes :=
  ⟨fun m n _ => ⟨decode_encode (.movBStore m n), .of_storeTo rfl⟩,
    fun m n _ => ⟨decode_encode (.movWStore m n), .of_storeTo rfl⟩,
    fun m n _ => ⟨decode_encode (.movLStore m n), .of_storeTo rfl⟩,
    fun d n s => ⟨decode_encode (.movBStoreDisp d n), s.eaDisp_byte n d ▸ .of_storeTo rfl⟩,
    fun d n _ => ⟨decode_encode (.movWStoreDisp d n), .of_storeTo rfl⟩,
    fun m d n _ => ⟨decode_encode (.movLStoreDisp m d n), .of_storeTo rfl⟩,
    fun m n _ => ⟨decode_encode (.movBStoreIdx m n), .of_storeTo rfl⟩,
    fun m n _ => ⟨decode_encode (.movWStoreIdx m n), .of_storeTo rfl⟩,
    fun m n _ => ⟨decode_encode (.movLStoreIdx m n), .of_storeTo rfl⟩,
    fun d s => ⟨encodes_of_byte rfl, s.eaGbr_byte d ▸ .of_storeTo rfl⟩,
    fun _ _ => ⟨encodes_of_byte rfl, .of_storeTo rfl⟩,
    fun _ _ => ⟨encodes_of_byte rfl, .of_storeTo rfl⟩⟩

/-- Settles O34: twelve loads, each from its effective address. -/
theorem loadsWriteOnlyTheDestination : Obligations.LoadsWriteOnlyTheDestination :=
  ⟨fun m n _ => ⟨decode_encode (.movBLoad m n), .of_loadTo rfl⟩,
    fun m n _ => ⟨decode_encode (.movWLoad m n), .of_loadTo rfl⟩,
    fun m n _ => ⟨decode_encode (.movLLoad m n), .of_loadTo rfl⟩,
    fun d m s => ⟨decode_encode (.movBLoadDisp d m), s.eaDisp_byte m d ▸ .of_loadTo rfl⟩,
    fun d m _ => ⟨decode_encode (.movWLoadDisp d m), .of_loadTo rfl⟩,
    fun d m n _ => ⟨decode_encode (.movLLoadDisp d m n), .of_loadTo rfl⟩,
    fun m n _ => ⟨decode_encode (.movBLoadIdx m n), .of_loadTo rfl⟩,
    fun m n _ => ⟨decode_encode (.movWLoadIdx m n), .of_loadTo rfl⟩,
    fun m n _ => ⟨decode_encode (.movLLoadIdx m n), .of_loadTo rfl⟩,
    fun d s => ⟨encodes_of_byte rfl, s.eaGbr_byte d ▸ .of_loadTo rfl⟩,
    fun _ _ => ⟨encodes_of_byte rfl, .of_loadTo rfl⟩,
    fun _ _ => ⟨encodes_of_byte rfl, .of_loadTo rfl⟩⟩

/-- Settles O35: three stores below a pointer, three loads that step it. -/
theorem preDecrementStoresAndPostIncrementLoads : Obligations.PreDecrementStoresAndPostIncrementLoads :=
  ⟨fun m n _ => ⟨decode_encode (.movBStorePre m n), .of_storePre rfl⟩,
    fun m n _ => ⟨decode_encode (.movWStorePre m n), .of_storePre rfl⟩,
    fun m n _ => ⟨decode_encode (.movLStorePre m n), .of_storePre rfl⟩,
    fun m n _ => ⟨decode_encode (.movBLoadPost m n), guarded_loadPost rfl⟩,
    fun m n _ => ⟨decode_encode (.movWLoadPost m n), guarded_loadPost rfl⟩,
    fun m n _ => ⟨decode_encode (.movLLoadPost m n), guarded_loadPost rfl⟩⟩

/-- Settles O36: a plain store, the linked pair, and the unaligned loads, whose value is a long read's in each byte
order. -/
theorem linkedUnalignedAndCacheAllocatingTransfers : Obligations.LinkedUnalignedAndCacheAllocatingTransfers := by
  refine ⟨fun n s => ⟨decode_encode (.movcaL n), .of_storeTo rfl⟩, fun m s => ⟨decode_encode (.movliL m), ?movli⟩,
    fun n s => ⟨decode_encode (.movcoL n), fun h => ?linked, fun h => ?unlinked⟩,
    fun m s => ⟨decode_encode (.movuaL m), ?movua⟩, fun m s => ⟨decode_encode (.movuaLPost m), ?movuaPost⟩⟩
  case movli => exact ⟨Guarded.of_load (exec_movliL m s), completes_movliL⟩
  case linked => exact ⟨Guarded.of_store (exec_movcoL_linked h), completes_movcoL_linked h⟩
  case unlinked => exact ⟨_, exec_movcoL_unlinked h, by simp, OnlyWrites.setT s false⟩
  case movua =>
    obtain ⟨hunanswered, hanswered⟩ := exec_of_readUnaligned (exec_movuaL m s)
    exact ⟨hunanswered, fun ha => (completes_setR (hanswered ha)).imp fun u ⟨hr, hw⟩ =>
      ⟨fun hl => hr.trans (State.memRead_long_little hl _), fun hb => hr.trans (State.memRead_long_big hb _), hw⟩⟩
  case movuaPost =>
    obtain ⟨hunanswered, hanswered⟩ := exec_of_readUnaligned (exec_movuaLPost m s)
    exact ⟨hunanswered, fun ha => (completes_setR_pointer (hanswered ha)).imp fun u ⟨hr, hpointer, hw⟩ =>
      ⟨fun hl => hr.trans (State.memRead_long_little hl _), fun hb => hr.trans (State.memRead_long_big hb _),
        hpointer, hw⟩⟩

/-- The flag T as 0 or 1 (R487). -/
theorem ite_one_zero_eq_setWidth (b : Bool) : (if b then 1 else 0 : Word) = (BitVec.ofBool b).setWidth 32 := by
  cases b <;> rfl

/-- Settles O31: seven writes of one register. -/
theorem registerMovesAndShuffles : Obligations.RegisterMovesAndShuffles :=
  ⟨fun m n _ => ⟨decode_encode (.movReg m n), completes_setR rfl⟩,
    fun _ _ _ => ⟨encodes_of_byte rfl, completes_setR rfl⟩,
    fun _ _ => ⟨encodes_of_byte rfl, completes_setR rfl⟩,
    fun n s => ⟨decode_encode (.movt n), ite_one_zero_eq_setWidth s.t ▸ completes_setR rfl⟩,
    fun m n _ => ⟨decode_encode (.swapB m n), completes_setR rfl⟩,
    fun m n _ => ⟨decode_encode (.swapW m n), completes_setR rfl⟩,
    fun m n _ => ⟨decode_encode (.xtrct m n), completes_setR rfl⟩⟩

/-- Settles O32: two loads; the long one's address is aligned whatever PC is. -/
theorem pcRelativeLoads : Obligations.PcRelativeLoads :=
  ⟨fun _ _ _ => ⟨encodes_of_byte rfl, .of_loadTo rfl⟩,
    fun d _ s => ⟨encodes_of_byte rfl, s.eaPcLong_aligned d, .of_loadTo rfl⟩⟩

end Sys2Proof.Machine
end

section
/-! How a transfer to or from a control or system register runs (46 R520 to R564): behind the check of 47 R585 where
it is privileged, by one register write, one pop or one push. -/

namespace Sys2Proof.Machine

variable {i j : Instr} {s x y : State} {m n : Reg} {b : BankReg} {v p : Word} {l : List Reg} {f : Word}

/-- The word of a row with a bank register (30 R122). -/
theorem encodes_of_bank {a c d : BitVec 4} (h : encode i = nibbles a c (1#1 ++ b) d) :
    Encodes (a ++ c ++ 0b1#1 ++ b ++ d : BitVec (4 + 4 + 1 + 3 + 4)) i := by
  unfold Encodes; rw [← nibbles_bank, ← h]; exact decode_encode i

/-! ## The check of R585 -/

/-- An instruction of the privileged set makes the check before anything else (47 R584, R585). -/
theorem exec_eq_privileged (h : privilegedInstr i = true) (s : State) : ∃ go, exec i s = s.privileged go := by
  cases i
  case ldcSr | ldcVbr | ldcSgr | ldcSsr | ldcSpc | ldcDbr | ldcBank => exact ⟨_, rfl⟩
  case ldcLSr | ldcLVbr | ldcLSgr | ldcLSsr | ldcLSpc | ldcLDbr | ldcLBank => exact ⟨_, rfl⟩
  case stcSr | stcVbr | stcSgr | stcSsr | stcSpc | stcDbr | stcBank => exact ⟨_, rfl⟩
  case stcLSr | stcLVbr | stcLSgr | stcLSsr | stcLSpc | stcLDbr | stcLBank => exact ⟨_, rfl⟩
  case rte | sleep | ldtlb => exact ⟨_, rfl⟩
  all_goals cases h

/-- In user mode outside a slot. -/
theorem exec_denied (h : privilegedInstr i = true) (hp : ¬Permitted s) (hds : s.ds = .normal) :
    exec i s = takeException .generalIllegalInstruction s := by
  obtain ⟨go, hexec⟩ := exec_eq_privileged h s
  rw [hexec, State.privileged_denied hp, State.inSlot_normal hds]
  rfl

theorem exec_denied_of_mem {is : List Instr} (h : is.all privilegedInstr = true) (hi : i ∈ is) (hp : ¬Permitted s)
    (hds : s.ds = .normal) : exec i s = takeException .generalIllegalInstruction s :=
  exec_denied (List.all_eq_true.1 h i hi) hp hds

/-- Where the check passes, the meaning behind it is the instruction's. -/
theorem exec_permitted {go : Result} (h : exec i s = s.privileged go) (hp : Permitted s) : exec i s = go :=
  h.trans (State.privileged_permitted hp go)

/-! ## A pop (R520) -/

/-- The long is read, then R[m] is stepped, then `g` writes the target. -/
theorem Pops.of_pop {g : State → Word → State} {post : Word → State → Prop}
    (h : exec i s = s.pop m fun s' v => (g s' v).done)
    (hpost : ∀ v, post v (g (s.setR m (s.r m + 4)) v).advance) : Pops m i s post :=
  ⟨Guarded.of_load h, fun ha => ⟨_, h.trans (State.pop_accessible ha _), hpost _⟩⟩

/-- The step of the pointer over `y`, the state with the target already written; `State.setR_with_gbr` and the like
bring the pop's state to this form. -/
theorem stepped_of_eq_setR (h : x = y.setR m p) : x.advance.r m = p ∧ OnlyWrites [m] 0 y x.advance := by
  subst h
  exact ⟨by simp, OnlyWrites.setR y m p⟩

/-! ## A bank register (R528, R536) -/

theorem SameSystem.setRBank (f : Word) (s : State) (b : BankReg) (v : Word) : SameSystem f s (s.setRBank b v) := by
  constructor <;> simp

theorem State.setRBank_advance (s : State) (b : BankReg) (v : Word) :
    (s.setRBank b v).advance = s.advance.setRBank b v := by
  unfold State.setRBank
  rw [State.advance_sel]
  split <;> rfl

/-- A bank register written last: it is the only one that changes, and the frame of the rest is as before. -/
theorem OnlyWrites.and_setRBank (h : OnlyWrites l f s x.advance) (b : BankReg) (v : Word) :
    (x.setRBank b v).advance.rBank b = v ∧ (∀ c, c ≠ b → (x.setRBank b v).advance.rBank c = s.rBank c) ∧
      SameRegs l s (x.setRBank b v).advance ∧ SameSystem f s (x.setRBank b v).advance ∧
      SameMemory s (x.setRBank b v).advance ∧ (x.setRBank b v).advance.pc = s.pc + 2 := by
  rw [State.setRBank_advance]
  refine ⟨by simp, fun c hc => ?others, fun k hk => ?general, ?system, fun a => ?memory, ?pc⟩
  case others => rw [State.setRBank_rBank, if_neg hc, h.banks c]
  case general => rw [State.setRBank_r, h.general k hk]
  case system => exact h.system.trans (SameSystem.setRBank f x.advance b v)
  case memory => rw [State.setRBank_byteAt, h.memory a]
  case pc => rw [State.setRBank_pc, h.pc]

/-! ## MACH, MACL and PR -/

/-- LDS.L to MACH (R540). -/
theorem pops_ldsLMach (m : Reg) (s : State) : Pops m (.ldsLMach m) s fun v u =>
    u.mach = v ∧ u.macl = s.macl ∧ u.r m = s.r m + 4 ∧ OnlyWrites [m] 0 { s with mac := u.mac } u :=
  Pops.of_pop rfl fun _ => ⟨by simp, by simp, stepped_of_eq_setR (State.setR_with_mac s m _ _)⟩

/-- LDS.L to MACL (R541). -/
theorem pops_ldsLMacl (m : Reg) (s : State) : Pops m (.ldsLMacl m) s fun v u =>
    u.macl = v ∧ u.mach = s.mach ∧ u.r m = s.r m + 4 ∧ OnlyWrites [m] 0 { s with mac := u.mac } u :=
  Pops.of_pop rfl fun _ => ⟨by simp, by simp, stepped_of_eq_setR (State.setR_with_mac s m _ _)⟩

/-- LDS.L to PR (R542). -/
theorem pops_ldsLPr (m : Reg) (s : State) : Pops m (.ldsLPr m) s fun v u =>
    u.pr = v ∧ u.r m = s.r m + 4 ∧ OnlyWrites [m] 0 { s with pr := u.pr } u :=
  Pops.of_pop (g := fun s' v => { s' with pr := v }) rfl fun v => ⟨rfl, stepped_of_eq_setR (s.setR_with_pr m _ v)⟩

theorem completes_setMach (h : exec i s = (s.setMach v).done) :
    Completes i s fun u => u.mach = v ∧ u.macl = s.macl ∧ OnlyWrites [] 0 { s with mac := u.mac } u :=
  ⟨_, h, by simp, by simp, OnlyWrites.done (s.setMach v)⟩

end Sys2Proof.Machine
end

section
/-! Control and system register transfer (46_control_transfer.md), a clause for each. -/

namespace Sys2Proof.Machine

/-- Settles O37: the new SR is masked, and the old one names the pointer of the pop. -/
theorem loadsOfSrStoreTheMaskedValue : Obligations.LoadsOfSrStoreTheMaskedValue :=
  ⟨fun m s => ⟨decode_encode (.ldcSr m),
      fun hp => ⟨_, exec_permitted rfl hp, rfl, OnlyWrites.done (s.setSr (s.r m))⟩,
      exec_denied rfl, 0, 0, m, by simp⟩,
    fun m s => ⟨decode_encode (.ldcLSr m),
      fun hp => .of_pop (exec_permitted rfl hp) fun v =>
        ⟨rfl, OnlyWrites.done ((s.setR m (s.r m + 4)).setSr v)⟩,
      exec_denied rfl, 0, 0, m, by simp⟩⟩

/-- Settles O38: one system register or bank register is written. -/
theorem loadsOfControlRegistersFromARegister : Obligations.LoadsOfControlRegistersFromARegister :=
  ⟨fun m s => ⟨decode_encode (.ldcGbr m), _, rfl, rfl, .done { s with gbr := s.r m }⟩,
    fun m s => ⟨decode_encode (.ldcVbr m), fun hp => ⟨_, exec_permitted rfl hp, rfl, .done { s with vbr := s.r m }⟩⟩,
    fun m s => ⟨decode_encode (.ldcSgr m), fun hp => ⟨_, exec_permitted rfl hp, rfl, .done { s with sgr := s.r m }⟩⟩,
    fun m s => ⟨decode_encode (.ldcSsr m), fun hp => ⟨_, exec_permitted rfl hp, rfl, .done { s with ssr := s.r m }⟩⟩,
    fun m s => ⟨decode_encode (.ldcSpc m), fun hp => ⟨_, exec_permitted rfl hp, rfl, .done { s with spc := s.r m }⟩⟩,
    fun m s => ⟨decode_encode (.ldcDbr m), fun hp => ⟨_, exec_permitted rfl hp, rfl, .done { s with dbr := s.r m }⟩⟩,
    fun m b s => ⟨encodes_of_bank rfl, fun hp =>
      ⟨_, exec_permitted rfl hp, (OnlyWrites.done s).and_setRBank b (s.r m)⟩⟩,
    fun _ _ _ _ => exec_denied_of_mem rfl⟩

/-- Settles O39: a pop, and a register written after it. -/
theorem popsIntoControlRegisters : Obligations.PopsIntoControlRegisters :=
  ⟨fun m s => ⟨decode_encode (.ldcLGbr m),
      .of_pop (g := fun s' v => { s' with gbr := v }) rfl fun v => ⟨rfl, stepped_of_eq_setR (s.setR_with_gbr m _ v)⟩⟩,
    fun m s => ⟨decode_encode (.ldcLVbr m), fun hp =>
      .of_pop (exec_permitted rfl hp) fun v => ⟨rfl, stepped_of_eq_setR (s.setR_with_vbr m _ v)⟩⟩,
    fun m s => ⟨decode_encode (.ldcLSgr m), fun hp =>
      .of_pop (exec_permitted rfl hp) fun v => ⟨rfl, stepped_of_eq_setR (s.setR_with_sgr m _ v)⟩⟩,
    fun m s => ⟨decode_encode (.ldcLSsr m), fun hp =>
      .of_pop (exec_permitted rfl hp) fun v => ⟨rfl, stepped_of_eq_setR (s.setR_with_ssr m _ v)⟩⟩,
    fun m s => ⟨decode_encode (.ldcLSpc m), fun hp =>
      .of_pop (exec_permitted rfl hp) fun v => ⟨rfl, stepped_of_eq_setR (s.setR_with_spc m _ v)⟩⟩,
    fun m s => ⟨decode_encode (.ldcLDbr m), fun hp =>
      .of_pop (exec_permitted rfl hp) fun v => ⟨rfl, stepped_of_eq_setR (s.setR_with_dbr m _ v)⟩⟩,
    fun m b s => ⟨encodes_of_bank rfl, fun hp =>
      .of_pop (exec_permitted rfl hp) fun v => ⟨by simp, (OnlyWrites.setR s m _).and_setRBank b v⟩⟩,
    fun _ _ _ _ => exec_denied_of_mem rfl⟩

/-- Settles O40: one half of MAC, or PR. -/
theorem loadsOfSystemRegisters : Obligations.LoadsOfSystemRegisters :=
  ⟨fun m _ => ⟨decode_encode (.ldsMach m), completes_setMach rfl⟩,
    fun m _ => ⟨decode_encode (.ldsMacl m), completes_setMacl rfl⟩,
    fun m s => ⟨decode_encode (.ldsPr m), _, rfl, rfl, .done { s with pr := s.r m }⟩,
    fun m s => ⟨decode_encode (.ldsLMach m), pops_ldsLMach m s⟩,
    fun m s => ⟨decode_encode (.ldsLMacl m), pops_ldsLMacl m s⟩,
    fun m s => ⟨decode_encode (.ldsLPr m), pops_ldsLPr m s⟩⟩

/-- Settles O41: eight writes of R[n], all but GBR's behind the check. -/
theorem storesOfControlRegistersToARegister : Obligations.StoresOfControlRegistersToARegister :=
  ⟨fun n _ => ⟨decode_encode (.stcSr n), fun hp => completes_setR (exec_permitted rfl hp)⟩,
    fun n _ => ⟨decode_encode (.stcGbr n), completes_setR rfl⟩,
    fun n _ => ⟨decode_encode (.stcVbr n), fun hp => completes_setR (exec_permitted rfl hp)⟩,
    fun n _ => ⟨decode_encode (.stcSgr n), fun hp => completes_setR (exec_permitted rfl hp)⟩,
    fun n _ => ⟨decode_encode (.stcSsr n), fun hp => completes_setR (exec_permitted rfl hp)⟩,
    fun n _ => ⟨decode_encode (.stcSpc n), fun hp => completes_setR (exec_permitted rfl hp)⟩,
    fun n _ => ⟨decode_encode (.stcDbr n), fun hp => completes_setR (exec_permitted rfl hp)⟩,
    fun _ _ _ => ⟨encodes_of_bank rfl, fun hp => completes_setR (exec_permitted rfl hp)⟩,
    fun _ _ _ _ => exec_denied_of_mem rfl⟩

/-- Settles O42: eight pushes, all but GBR's behind the check. -/
theorem pushesOfControlRegisters : Obligations.PushesOfControlRegisters :=
  ⟨fun n _ => ⟨decode_encode (.stcLSr n), fun hp => .of_storePre (exec_permitted rfl hp)⟩,
    fun n _ => ⟨decode_encode (.stcLGbr n), .of_storePre rfl⟩,
    fun n _ => ⟨decode_encode (.stcLVbr n), fun hp => .of_storePre (exec_permitted rfl hp)⟩,
    fun n _ => ⟨decode_encode (.stcLSgr n), fun hp => .of_storePre (exec_permitted rfl hp)⟩,
    fun n _ => ⟨decode_encode (.stcLSsr n), fun hp => .of_storePre (exec_permitted rfl hp)⟩,
    fun n _ => ⟨decode_encode (.stcLSpc n), fun hp => .of_storePre (exec_permitted rfl hp)⟩,
    fun n _ => ⟨decode_encode (.stcLDbr n), fun hp => .of_storePre (exec_permitted rfl hp)⟩,
    fun _ _ _ => ⟨encodes_of_bank rfl, fun hp => .of_storePre (exec_permitted rfl hp)⟩,
    fun _ _ _ _ => exec_denied_of_mem rfl⟩

/-- Settles O43: three writes of R[n], three pushes. -/
theorem storesAndPushesOfSystemRegisters : Obligations.StoresAndPushesOfSystemRegisters :=
  ⟨fun n _ => ⟨decode_encode (.stsMach n), completes_setR rfl⟩,
    fun n _ => ⟨decode_encode (.stsMacl n), completes_setR rfl⟩,
    fun n _ => ⟨decode_encode (.stsPr n), completes_setR rfl⟩,
    fun n _ => ⟨decode_encode (.stsLMach n), .of_storePre rfl⟩,
    fun n _ => ⟨decode_encode (.stsLMacl n), .of_storePre rfl⟩,
    fun n _ => ⟨decode_encode (.stsLPr n), .of_storePre rfl⟩⟩

end Sys2Proof.Machine
end

section
/-! The round trips of 46 R565: a load of a control register then its store, and a push of a system register then its
pop. -/

namespace Sys2Proof.Machine

variable {i j : Instr} {s x : State} {n : Reg} {v : Word}

/-- The second instruction writes R[n] with what the first left in its register. -/
theorem completes_then_setR (hi : exec i s = x.done) (hj : exec j x.advance = (x.advance.setR n v).done) :
    Completes i s fun u => Completes j u fun y => y.r n = v :=
  ⟨_, hi, (completes_setR hj).imp fun _ h => h.1⟩

/-- A pop right after a push to RAM reads the pushed value back and undoes the push's decrement. -/
theorem completes_push_then_pop {post : State → Word → State → Prop} (hpush : Pushes .long n v i s)
    (hpop : ∀ u, Pops n j u (post u)) (hk : Keeps s (s.r n - 4) 4) (ha : Width.aligned .long (s.r n - 4) = true) :
    Completes i s fun u => Completes j u fun y => u.r n + 4 = s.r n ∧ SameSystem 0 s u ∧ post u v y := by
  have hwrite : Accessible s .write .long (s.r n - 4) := ⟨ha, State.ram_answers hk.2 .write⟩
  refine (hpush.2 hwrite).imp fun u ⟨hr, hbytes, hframe⟩ => ?_
  have hr : u.r n = s.r n - 4 := hr
  have hread : Accessible u .read .long (u.r n) := by
    rw [hr]
    exact ⟨ha, (State.answers_congr hframe.system.params _ _ _).trans (State.ram_answers hk.2 .read)⟩
  have hvalue : u.memRead .long (u.r n) = v := by rw [hr]; exact hbytes hk
  exact ((hpop u).2 hread).imp fun y hy =>
    ⟨by rw [hr, BitVec.sub_add_cancel], hframe.system, hvalue ▸ hy⟩

/-- MAC is its two halves (10 R45). -/
theorem State.mac_congr (hh : x.mach = s.mach) (hl : x.macl = s.macl) : x.mac = s.mac := by
  have hmac (z : State) : z.mach ++ z.macl = z.mac :=
    (BitVec.extractLsb'_append_extractLsb'_eq_extractLsb' (by decide)).trans BitVec.extractLsb'_eq_self
  rw [← hmac x, ← hmac s, hh, hl]

/-- Settles O44: laws 1 and 2 of R565. -/
theorem controlRegisterRoundTrips : Obligations.ControlRegisterRoundTrips := by
  refine ⟨fun m n s hp => ?control, fun m n s hoff => ?status, fun s hk ha => ⟨?mach, ?macl, ?pr⟩⟩
  case control =>
    exact ⟨completes_then_setR rfl rfl,
      completes_then_setR (exec_permitted rfl hp) (exec_permitted rfl hp),
      completes_then_setR (exec_permitted rfl hp) (exec_permitted rfl hp),
      completes_then_setR (exec_permitted rfl hp) (exec_permitted rfl hp),
      completes_then_setR (exec_permitted rfl hp) (exec_permitted rfl hp),
      completes_then_setR (exec_permitted rfl hp) (exec_permitted rfl hp)⟩
  case status => exact completes_then_setR (exec_permitted rfl (.inl hoff)) (exec_permitted rfl (.inl hoff))
  case mach =>
    exact (completes_push_then_pop (.of_storePre rfl) (pops_ldsLMach 15) hk ha).imp fun u hu =>
      hu.imp fun y ⟨hpointer, hsame, hmach, hmacl, hr, _⟩ =>
        ⟨State.mac_congr hmach (hmacl.trans (congrArg (BitVec.extractLsb' 0 32) hsame.mac)), hr.trans hpointer⟩
  case macl =>
    exact (completes_push_then_pop (.of_storePre rfl) (pops_ldsLMacl 15) hk ha).imp fun u hu =>
      hu.imp fun y ⟨hpointer, hsame, hmacl, hmach, hr, _⟩ =>
        ⟨State.mac_congr (hmach.trans (congrArg (BitVec.extractLsb' 32 32) hsame.mac)) hmacl, hr.trans hpointer⟩
  case pr =>
    exact (completes_push_then_pop (.of_storePre rfl) (pops_ldsLPr 15) hk ha).imp fun u hu =>
      hu.imp fun y ⟨hpointer, _, hpr, hr, _⟩ => ⟨hpr, hr.trans hpointer⟩

end Sys2Proof.Machine
end

section
/-! User mode (47 R584, R585): an instruction executed there takes an exception or leaves the privileged state as it
is, and so does a step, a delayed branch and its slot included. -/

namespace Sys2Proof.Machine

variable {i : Instr} {s u x : State}

/-! ## Confinement -/

theorem Confined.refl (s : State) : Confined s s := ⟨rfl, rfl, rfl, rfl, rfl, rfl, fun _ => rfl⟩

theorem Confined.trans (h : Confined s u) (h' : Confined u x) : Confined s x :=
  ⟨h'.status.trans h.status, h'.vbr.trans h.vbr, h'.sgr.trans h.sgr, h'.ssr.trans h.ssr, h'.spc.trans h.spc,
    h'.dbr.trans h.dbr, fun b => (h'.banks b).trans (h.banks b)⟩

/-- What clearing the report and counting the step change (log 12, log 21). -/
theorem Confined.fresh (s : State) : Confined s s.fresh := ⟨rfl, rfl, rfl, rfl, rfl, rfl, fun _ => rfl⟩

/-- What the delay-slot controller writes (44 R401, R402). -/
theorem Confined.controller (s : State) (a : Word) (ds : DelayState) : Confined s { s with pc := a, ds := ds } :=
  ⟨rfl, rfl, rfl, rfl, rfl, rfl, fun _ => rfl⟩

/-- MD is not one of T, S, Q, M. -/
theorem Confined.md_eq (h : Confined s u) : u.md = s.md := by
  have hbit := congrArg (BitVec.getLsbD · 30) h.status
  simpa [State.md, tBit, sBit, qBit, mBit] using hbit

/-- The writers of a whole SR value are privileged (10 R37; 47 R584). -/
theorem writesStatus_of_unprivileged (hi : privilegedInstr i = false) : writesStatus i = false := by
  unfold writesStatus
  split
  case h_4 => rfl
  all_goals cases hi

/-- What neither took an exception nor entered a slot is confined, unless it is privileged. -/
theorem Kept.confined (h : Kept i s u) (hi : privilegedInstr i = false) : Confined s u := by
  obtain ⟨hvbr, hsgr, hssr, hspc, hdbr⟩ := h.control hi
  exact ⟨h.status (writesStatus_of_unprivileged hi), hvbr, hsgr, hssr, hspc, hdbr, h.banks hi⟩

/-- Of the delayed branches only RTE, which is privileged, writes SR (44 R401, R421). -/
theorem Delays.confined (h : Delays i s u) (hi : privilegedInstr i = false) : Confined s u := by
  obtain ⟨_, ⟨_, hu⟩, hsr | ⟨rfl, _⟩⟩ := h
  · rw [hsr] at hu
    rw [hu]
    exact ⟨rfl, rfl, rfl, rfl, rfl, rfl, fun _ => rfl⟩
  · exact nomatch hi

/-! ## An instruction, then a step -/

/-- User mode where PRIV_CHECK is on (47 R585). -/
theorem not_permitted (hcheck : s.params.privCheck = .on) (hmd : s.md = false) : ¬Permitted s := by
  rintro (h | h)
  · exact nomatch hcheck.symm.trans h
  · exact nomatch hmd.symm.trans h

/-- An instruction executed in user mode, in a slot or outside one. -/
theorem exec_user (hp : ¬Permitted s) (h : exec i s = .next u) :
    (∃ e, takeException e s = .next u) ∨ Confined s u := by
  cases hi : privilegedInstr i with
  | true =>
    obtain ⟨go, hgo⟩ := exec_eq_privileged hi s
    rw [hgo, State.privileged_denied hp] at h
    exact .inl ⟨_, h⟩
  | false =>
    rcases exec_next h with hexc | hkept | hdelays
    · exact .inl hexc
    · exact .inr (hkept.confined hi)
    · exact .inr (hdelays.confined hi)

/-- A delayed branch leaves user mode in its slot too. -/
theorem Branched.user {t : Word} (hp : ¬Permitted s) (h : Branched i s u t) :
    Confined s u ∧ ∀ a, ¬Permitted { u with pc := a } := by
  obtain ⟨hexec, undo, hds⟩ := h
  rcases exec_user (s := s.fresh) hp hexec with ⟨e, hexc⟩ | hconf
  · exact nomatch (takeException_keeps hexc).1.symm.trans hds
  · have hparams : u.params = s.params := (exec_platform hexec).1
    have hmd : u.md = s.md := hconf.md_eq
    exact ⟨(Confined.fresh s).trans hconf, fun a h => hp (h.imp (fun h => hparams ▸ h) fun h => hmd.symm.trans h)⟩

/-- The slot of a branch executed in user mode: what it raises is the branch's (44 R405). -/
theorem runSlot_user {t : Word} (hs : s.ds = .normal) (hp : ¬Permitted s) (hb : Branched i s x t)
    (h : runSlot x = .next u) : (∃ e, takeException e s.fresh = .next u) ∨ Confined s u := by
  obtain ⟨hconf, hslot⟩ := hb.user hp
  rcases runSlot_next h with ⟨_, j, y, _, _, _, _, _, hy, hends⟩ | ⟨_, _, hexc⟩
  · rcases exec_user (hslot _) hy with ⟨e, hexc⟩ | hrest
    · have hds : y.ds = .normal := (takeException_keeps hexc).1
      rcases hends with ⟨_, _, hpending, _⟩ | ⟨_, rfl⟩
      · exact nomatch hds.symm.trans hpending
      · exact .inl ⟨e, (hb.takeException_eq hs e _).symm.trans hexc⟩
    · have hy : Confined s y := (hconf.trans (Confined.controller x _ x.ds)).trans hrest
      rcases hends with ⟨target, _, _, rfl⟩ | ⟨_, rfl⟩
      · exact .inr (hy.trans (Confined.controller y target .normal))
      · exact .inr hy
  · exact .inl ⟨_, (hb.takeException_eq hs _ x.pc).symm.trans hexc⟩

/-- A fetched word run in user mode. -/
theorem runWord_user {w : Half} (hs : s.ds = .normal) (hp : ¬Permitted s) (h : runWord w s.fresh = .next u) :
    (∃ e, takeException e s.fresh = .next u) ∨ Confined s u := by
  unfold runWord at h
  split at h
  · exact .inl ⟨_, h⟩
  · rcases runInstr_next h with ⟨hexec, _⟩ | ⟨x, t, undo, hexec, hds, hslot⟩
    · exact (exec_user (s := s.fresh) hp hexec).imp_right (Confined.fresh s).trans
    · exact runSlot_user hs hp ⟨hexec, undo, hds⟩ hslot

/-- Settles O54: with no event first the step is the engine's, which sleeps, raises at the fetch or runs the word. -/
theorem onlyAnExceptionEntryLeavesUserMode : Obligations.OnlyAnExceptionEntryLeavesUserMode := by
  intro s u hinv hevents hcheck hmd hstep
  have hp : ¬Permitted s := not_permitted hcheck hmd
  rw [step_engine hevents] at hstep
  obtain ⟨_, hds, ⟨_, rfl⟩ | ⟨_, hfetch⟩⟩ := engineStep_next hstep
  · exact .inl (Confined.refl u)
  · rcases State.fetch_next hfetch with ⟨_, hrun⟩ | ⟨_, _, hexc⟩
    · exact (runWord_user hds hp hrun).symm
    · exact .inr ⟨_, hexc⟩

end Sys2Proof.Machine
end

section
/-! The check of 47 R585 and nothing else reads PRIV_CHECK: behind it, a privileged instruction runs alike under both
values of the parameter. -/

namespace Sys2Proof.Machine

variable {q : PrivCheck} {s : State} {i : Instr}

/-! ## A state under the other value of PRIV_CHECK -/

/-- The state with PRIV_CHECK set to `q` (00 R12). -/
def State.withPriv (q : PrivCheck) (s : State) : State := { s with params := { s.params with privCheck := q } }

theorem State.withPriv_r (q : PrivCheck) (s : State) (n : Reg) : (s.withPriv q).r n = s.r n := rfl

theorem State.withPriv_setR (q : PrivCheck) (s : State) (n : Reg) (v : Word) :
    (s.withPriv q).setR n v = (s.setR n v).withPriv q := by
  have hsel : (s.withPriv q).sel = s.sel := rfl
  unfold State.setR
  rw [hsel]
  split
  · rfl
  · split <;> rfl

theorem State.withPriv_setRBank (q : PrivCheck) (s : State) (b : BankReg) (v : Word) :
    (s.withPriv q).setRBank b v = (s.setRBank b v).withPriv q := by
  have hsel : (s.withPriv q).sel = s.sel := rfl
  unfold State.setRBank
  rw [hsel]
  split <;> rfl

theorem State.withPriv_memWrite (q : PrivCheck) (s : State) (w : Width) (a v : Word) :
    (s.withPriv q).memWrite w a v = (s.memWrite w a v).withPriv q := by
  have hendian : (s.withPriv q).params.endian = s.params.endian := rfl
  unfold State.memWrite
  rw [hendian]
  cases w <;> cases s.params.endian <;> rfl

theorem State.withPriv_undoBranch (q : PrivCheck) (s : State) :
    (s.withPriv q).undoBranch = s.undoBranch.withPriv q := by
  cases h : s.ds with
  | normal => rw [State.undoBranch_normal h]; exact State.undoBranch_normal h
  | pending t b => rw [State.undoBranch_pending h]; exact State.undoBranch_pending h

/-! ## Results under both values -/

/-- Where `r` answers a state, `r'` answers the same but for PRIV_CHECK, which is `q`. -/
def Follows (q : PrivCheck) (r r' : Result) : Prop := ∀ u, r = .next u → r' = .next (u.withPriv q)

theorem Follows.next {x y : State} (h : y = x.withPriv q) : Follows q (.next x) (.next y) := by
  rintro u ⟨⟩
  rw [h]

theorem Follows.done {x y : State} (h : y = x.withPriv q) : Follows q x.done y.done :=
  Follows.next (congrArg State.advance h)

/-- Taking an exception does not read PRIV_CHECK (60 R621, R622). -/
theorem Follows.exception (q : PrivCheck) (e : Exc) (s : State) :
    Follows q (takeException e s) (takeException e (s.withPriv q)) := by
  intro u h
  have hundo := s.withPriv_undoBranch q
  unfold takeException
  rcases takeException_next h with ⟨hentry, rfl⟩ | ⟨hentry, hbl, rfl⟩
  · have hentry : (s.undoBranch.withPriv q).params.trapEntry = .external := hentry
    simp only [hundo, hentry]; rfl
  · have hentry : (s.undoBranch.withPriv q).params.trapEntry = .reference := hentry
    have hbl : (s.undoBranch.withPriv q).bl = false := hbl
    simp only [hundo, hentry, hbl]
    cases e <;> rfl

theorem Follows.checked {d : Direction} {w : Width} {a : Word} {go go' : Result} (h : Follows q go go') :
    Follows q (s.checked d w a go) ((s.withPriv q).checked d w a go') := by
  intro u hu
  rcases State.checked_next hu with ⟨ha, hgo⟩ | ⟨ha, hm, hexc⟩
  · exact (State.checked_accessible (s := s.withPriv q) ha go').trans (h u hgo)
  · rw [State.checked_misaligned ha, addressError_exception (s := s.withPriv q) hm]
    exact Follows.exception q _ s u hexc

theorem Follows.pop {m : Reg} {k : State → Word → Result}
    (h : ∀ x v, Follows q (k x v) (k (x.withPriv q) v)) : Follows q (s.pop m k) ((s.withPriv q).pop m k) := by
  refine Follows.checked ?_
  rw [State.withPriv_r, State.withPriv_setR]
  exact h _ _

theorem Follows.storePre {w : Width} {n : Reg} {v : Word} :
    Follows q (s.storePre w n v) ((s.withPriv q).storePre w n v) := by
  refine Follows.checked (Follows.done ?_)
  rw [State.withPriv_r, State.withPriv_memWrite, State.withPriv_setR]

theorem Follows.setR {n : Reg} {v : Word} : Follows q (s.setR n v).done ((s.withPriv q).setR n v).done :=
  Follows.done (s.withPriv_setR q n v)

/-- In privileged mode the check passes under either value (R585). -/
theorem Follows.privileged (hmd : s.md = true) {go go' : Result} (h : Follows q go go') :
    Follows q (s.privileged go) ((s.withPriv q).privileged go') := by
  rw [State.privileged_permitted (.inr hmd), State.privileged_permitted (s := s.withPriv q) (.inr hmd)]
  exact h

/-! ## The privileged set -/

/-- R585: what stands behind the check is a register write, a pop or a push, or RTE, SLEEP, LDTLB. -/
theorem exec_follows (hi : privilegedInstr i = true) (hmd : s.md = true) (q : PrivCheck) :
    Follows q (exec i s) (exec i (s.withPriv q)) := by
  cases i
  case ldcSr | ldcVbr | ldcSgr | ldcSsr | ldcSpc | ldcDbr => exact .privileged hmd (.done rfl)
  case ldcBank m b => exact .privileged hmd (.done (s.withPriv_setRBank q b (s.r m)))
  case ldcLSr | ldcLVbr | ldcLSgr | ldcLSsr | ldcLSpc | ldcLDbr =>
    exact .privileged hmd (.pop fun _ _ => .done rfl)
  case ldcLBank m b => exact .privileged hmd (.pop fun x v => .done (x.withPriv_setRBank q b v))
  case stcSr | stcVbr | stcSgr | stcSsr | stcSpc | stcDbr | stcBank => exact .privileged hmd .setR
  case stcLSr | stcLVbr | stcLSgr | stcLSsr | stcLSpc | stcLDbr | stcLBank => exact .privileged hmd .storePre
  case rte => exact .privileged hmd (.next rfl)
  case sleep | ldtlb => exact .privileged hmd (.done rfl)
  all_goals cases hi

/-- Settles O53: the check itself in user mode, and what stands behind it in privileged mode. -/
theorem privilegedInstructionsTrapInUserMode : Obligations.PrivilegedInstructionsTrapInUserMode := by
  intro i s hi
  refine ⟨fun hcheck hmd => ?user, fun hmd p q u => exec_follows (s := s.withPriv p) hi hmd q u⟩
  case user =>
    have hp : ¬Permitted s := not_permitted hcheck hmd
    refine ⟨exec_denied hi hp, fun t undo hds => ?_⟩
    obtain ⟨go, hgo⟩ := exec_eq_privileged hi s
    have hslot : s.inSlot = true := by unfold State.inSlot; rw [hds]
    rw [hgo, State.privileged_denied hp, hslot]
    rfl

end Sys2Proof.Machine
end

section
/-! Flags, no-operations and OCBI (47_system.md). -/

namespace Sys2Proof.Machine

variable {i : Instr} {s : State}

/-- S only. -/
theorem OnlyWrites.setS (s : State) (v : Bool) : OnlyWrites [] sBit s (s.setS v).advance :=
  ((OnlyWrites.done s).mono_flags (by decide)).trans_flag rfl (State.setS_r s.advance v)
    (State.setS_rBank s.advance v) (SameSystem.setS (by decide) s.advance v) fun _ => rfl

/-- Settles O45: two writes of T, two of S. -/
theorem flagInstructionsWriteOneFlag : Obligations.FlagInstructionsWriteOneFlag :=
  ⟨fun s => ⟨decode_encode .clrt, _, rfl, State.setT_t s false, OnlyWrites.setT s false⟩,
    fun s => ⟨decode_encode .sett, _, rfl, State.setT_t s true, OnlyWrites.setT s true⟩,
    fun s => ⟨decode_encode .clrs, _, rfl, State.setS_s s false, OnlyWrites.setS s false⟩,
    fun s => ⟨decode_encode .sets, _, rfl, State.setS_s s true, OnlyWrites.setS s true⟩⟩

/-- An instruction that is `next` and no more. -/
theorem completes_done (h : exec i s = s.done) : Completes i s (OnlyWrites [] 0 s) := ⟨_, h, OnlyWrites.done s⟩

/-- Settles O46: none reads its operand, and only LDTLB makes a check first. -/
theorem noOperationsOnlyAdvancePc : Obligations.NoOperationsOnlyAdvancePc :=
  ⟨fun n _ => ⟨decode_encode (.icbi n), completes_done rfl⟩,
    fun n _ => ⟨decode_encode (.pref n), completes_done rfl⟩,
    fun n _ => ⟨decode_encode (.prefi n), completes_done rfl⟩,
    fun n _ => ⟨decode_encode (.ocbp n), completes_done rfl⟩,
    fun n _ => ⟨decode_encode (.ocbwb n), completes_done rfl⟩,
    fun _ => ⟨decode_encode .ldtlb, fun hp => completes_done (exec_permitted rfl hp)⟩,
    fun _ => ⟨decode_encode .nop, completes_done rfl⟩,
    fun _ => ⟨decode_encode .synco, completes_done rfl⟩⟩

/-! ## OCBI (R577) -/

/-- The state in which the `k` bytes from `base` on have been drawn. -/
def State.drawLine (s : State) (base : Word) (k : Nat) : State :=
  { s with mem := havocBytes s.params s.draws base k s.mem, draws := s.draws + 1 }

theorem State.drawLine_byteAt (hwf : Memory.wf s.mem = true) {base x : Word} {k : Nat} (hx : (x - base).toNat < k)
    (hr : s.isRam x = true) : (s.drawLine base k).byteAt x = Config.drawByte s.draws x :=
  (State.byteAt_ram (s := s.drawLine base k) hr).trans
    (read_havocBytes s.draws base ((s.isRam_iff x).1 hr).2 hwf k hx)

theorem State.drawLine_byteAt_other (s : State) {base x : Word} {k : Nat} (hx : k ≤ (x - base).toNat) :
    (s.drawLine base k).byteAt x = s.byteAt x := by
  unfold State.byteAt State.drawLine
  simp only [read_havocBytes_other _ _ _ _ _ _ hx]

theorem exec_ocbi_havoc (n : Reg) (h : s.params.ocbiModel = .havoc) : exec (.ocbi n) s =
    s.answered .write (s.r n &&& 0xFFFFFFE0) 32 (s.drawLine (s.r n &&& 0xFFFFFFE0) 32).done := by
  show execOcbi n s = _
  unfold execOcbi
  rw [h]
  rfl

theorem exec_ocbi_noop (n : Reg) (h : s.params.ocbiModel = .noop) : exec (.ocbi n) s = s.done := by
  show execOcbi n s = _
  unfold execOcbi
  rw [h]

/-- Settles O47: under havoc the line is drawn where the port answers it, under noop the instruction is a no-op. -/
theorem ocbiDrawsItsLineOrDoesNothing : Obligations.OcbiDrawsItsLineOrDoesNothing := by
  intro n s
  refine ⟨decode_encode (.ocbi n), ?_⟩
  intro base
  refine ⟨fun hm ha => ?drawn, fun hm ha => ?unanswered, fun hm => completes_done (exec_ocbi_noop n hm)⟩
  case drawn =>
    refine ⟨(s.drawLine base 32).advance, (exec_ocbi_havoc n hm).trans (if_pos ha), fun hwf x => ?_, rfl,
      fun _ _ => rfl, fun _ => rfl, by constructor <;> rfl, fun x => ?_⟩
    · exact State.drawLine_byteAt hwf
    · exact s.drawLine_byteAt_other
  case unanswered =>
    exact (exec_ocbi_havoc n hm).trans (if_neg (Bool.eq_false_iff.1 ha))

end Sys2Proof.Machine
end

section
/-! Exception entry and the interrupts (60 R620 to R628): the part of the entry that both share, then what each adds. -/

namespace Sys2Proof.Machine

variable {s u : State} {e : Exc} {a savedPc : Word}

/-! ## The shared entry (R622) -/

theorem or_entryBits_getLsbD {k : Nat} (hk : entryBits.getLsbD k = true) (v : Word) :
    (v ||| entryBits).getLsbD k = true := by
  rw [BitVec.getLsbD_or, hk, Bool.or_true]

/-- Entry changes MD, RB and BL only. -/
theorem or_entryBits_andNot (v : Word) : (v ||| entryBits) &&& ~~~0x70000000 = v &&& ~~~0x70000000 := by
  rw [BitVec.and_or_distrib_right, show entryBits &&& ~~~0x70000000 = 0#32 by decide]
  exact BitVec.or_zero

theorem Entered.enterVector (s : State) (savedPc offset : Word) :
    Entered savedPc (s.vbr + offset) s (s.enterVector savedPc offset) where
  spc := rfl
  ssr := rfl
  sgr := rfl
  md := or_entryBits_getLsbD (by decide) s.sr
  rb := or_entryBits_getLsbD (by decide) s.sr
  bl := or_entryBits_getLsbD (by decide) s.sr
  status := or_entryBits_andNot s.sr
  ldst := rfl
  pc := rfl
  general := fun _ _ => rfl
  banks := fun _ => rfl
  memory := fun _ => rfl
  system := by constructor <;> rfl

/-- The collaborator's registers and Sleeping are left open by the shared entry. -/
theorem Entered.with_collaborator (h : Entered savedPc a s u) (expevt intevt tra tea : Word) (sleeping : Bool) :
    Entered savedPc a s
      { u with expevt := expevt, intevt := intevt, tra := tra, tea := tea, sleeping := sleeping } where
  spc := h.spc
  ssr := h.ssr
  sgr := h.sgr
  md := h.md
  rb := h.rb
  bl := h.bl
  status := h.status
  ldst := h.ldst
  pc := h.pc
  general := h.general
  banks := h.banks
  memory := h.memory
  system := ⟨h.system.status, h.system.gbr, h.system.vbr, rfl, rfl, rfl, h.system.dbr, h.system.pr, h.system.mac, rfl,
    rfl, h.system.ds, h.system.mark, rfl, rfl, rfl, rfl, h.system.params, h.system.report, h.system.events,
    h.system.draws, h.system.ticks⟩

/-! ## Taking an exception outside a slot (R621, R622, R625) -/

/-- TRA, the trap's alone (R622). -/
theorem State.recordCause_tra (e : Exc) (s : State) :
    (s.recordCause e).tra = match e with | .trap imm => imm.setWidth 32 <<< 2 | _ => s.tra := by cases e <;> rfl

/-- TEA, the address errors' alone (R622). -/
theorem State.recordCause_tea (e : Exc) (s : State) :
    (s.recordCause e).tea = match e with
      | .instructionAddressError a => a | .dataAddressErrorRead a => a | .dataAddressErrorWrite a => a
      | _ => s.tea := by cases e <;> rfl

/-- Recording the cause writes the collaborator's registers, which the entry does not read. -/
theorem State.recordCause_enterVector (e : Exc) (s : State) (savedPc offset : Word) :
    (s.recordCause e).enterVector savedPc offset = { s.enterVector savedPc offset with
      expevt := e.code, tra := (s.recordCause e).tra, tea := (s.recordCause e).tea } := by
  cases e <;> rfl

theorem takeException_reference (hds : s.ds = .normal) (hentry : s.params.trapEntry = .reference) (hbl : s.bl = false)
    (e : Exc) : takeException e s = .next ((s.recordCause e).enterVector (e.savedPc s.pc) generalOffset) := by
  unfold takeException
  simp only [State.undoBranch_normal hds, hentry, hbl, Bool.false_eq_true, if_false]

theorem takeException_blocked (hds : s.ds = .normal) (hentry : s.params.trapEntry = .reference) (hbl : s.bl = true)
    (e : Exc) : takeException e s = .fault .blockedException := by
  unfold takeException
  simp only [State.undoBranch_normal hds, hentry, hbl, if_true]

/-- In a slot, `s.undoBranch` is the state before the branch (44 R405). -/
theorem takeException_external (hentry : s.undoBranch.params.trapEntry = .external) (e : Exc) : takeException e s =
    .next { s.undoBranch with report := some ⟨e, e.code, e.savedPc s.undoBranch.pc⟩ } := by
  unfold takeException
  simp only [hentry]

theorem Entered.exception (e : Exc) (s : State) : Entered (e.savedPc s.pc) (s.vbr + 0x100) s
    ((s.recordCause e).enterVector (e.savedPc s.pc) generalOffset) := by
  rw [State.recordCause_enterVector]
  exact (Entered.enterVector s _ generalOffset).with_collaborator _ _ _ _ _

/-! ## An offered interrupt (R626, R627) -/

theorem State.accepts_iff (s : State) (offer : Interrupt) : s.accepts offer = true ↔
    s.mark = none ∧ s.bl = false ∧
      (offer = .nmi ∨ ∃ l code, offer = .level l code ∧ (s.sr.extractLsb' 4 4).toNat < l.toNat) := by
  unfold State.accepts State.imask
  cases offer with
  | nmi => simp
  | level l code => simp [and_assoc]

theorem State.offerInterrupt_accepted {offer : Interrupt} (h : s.accepts offer = true) :
    s.offerInterrupt offer = s.enterInterrupt offer := if_pos h

theorem State.offerInterrupt_refused {offer : Interrupt} (h : s.accepts offer = false) :
    s.offerInterrupt offer = s := if_neg (Bool.eq_false_iff.1 h)

theorem Entered.interrupt (s : State) (offer : Interrupt) :
    Entered s.pc (s.vbr + 0x600) s (s.enterInterrupt offer) :=
  (Entered.enterVector s s.pc interruptOffset).with_collaborator _ _ _ _ _

/-- BL = 1 blocks every offer, NMI too (log 11). -/
theorem State.accepts_blocked (h : s.bl = true) (offer : Interrupt) : s.accepts offer = false :=
  Bool.eq_false_iff.2 fun ha => nomatch h.symm.trans ((s.accepts_iff offer).1 ha).2.1

end Sys2Proof.Machine
end

section
/-! Exceptions, interrupts and TRAPA, a clause at a time (60 R620 to R628; 47 R582). -/

namespace Sys2Proof.Machine

variable {s u : State}

/-- Settles O50: the entry of an exception, of an accepted interrupt, and what BL = 1 blocks. -/
theorem exceptionEntryAndBlocking : Obligations.ExceptionEntryAndBlocking := by
  refine ⟨fun e s hds hentry => ⟨fun hbl => ?blocked, fun hbl => ?taken⟩, fun offer s h => ?interrupt,
    fun s hbl => ⟨fun hds hentry => ?exceptions, fun offer => ?offers⟩⟩
  case blocked => exact takeException_blocked hds hentry hbl e
  case taken =>
    have hentered := Entered.exception e s
    have hcode := s.recordCause_expevt e
    refine ⟨_, takeException_reference hds hentry hbl e, ?_, ?_, State.recordCause_tra e s,
      State.recordCause_tea e s, s.recordCause_intevt e, s.recordCause_sleeping e⟩
    · cases e <;> exact hentered
    · cases e <;> rfl
  case interrupt =>
    rw [State.offerInterrupt_accepted h]
    exact ⟨Entered.interrupt s offer, rfl, rfl, rfl, rfl⟩
  case exceptions => exact takeException_blocked hds hentry hbl
  case offers =>
    have hno := State.accepts_blocked hbl offer
    exact ⟨hno, State.offerInterrupt_refused hno⟩

/-- Settles O48: TRAPA is the taking of its exception. -/
theorem trapTakesTheTrapException : Obligations.TrapTakesTheTrapException := by
  intro i s
  refine ⟨encodes_of_byte rfl, fun hds hentry hbl => ?taken, fun hds hentry hbl => ?blocked,
    fun hds hentry => ?external, i, 0, 0, by simp⟩
  case taken =>
    exact ⟨_, takeException_reference hds hentry hbl (.trap i), Entered.exception (.trap i) s, rfl, rfl, rfl, rfl,
      rfl⟩
  case blocked => exact takeException_blocked hds hentry hbl (.trap i)
  case external =>
    have hundo := State.undoBranch_normal hds
    exact (takeException_external (hundo.symm ▸ hentry) (.trap i)).trans (by rw [hundo]; rfl)

/-- Settles O51: the state before the instruction, or before the branch. -/
theorem externalEntryReportsAndWritesNothing : Obligations.ExternalEntryReportsAndWritesNothing := by
  intro e s hentry
  refine ⟨fun hds => ?outside, fun t undo hds => ?slot⟩
  case outside =>
    have hundo := State.undoBranch_normal hds
    rw [takeException_external (hundo.symm ▸ hentry), hundo]
  case slot =>
    have hundo := State.undoBranch_pending hds
    rw [takeException_external (hundo.symm ▸ hentry), hundo]

/-- Settles O52: the offer is accepted or dropped, in the state without it. -/
theorem interruptsAreTakenBetweenStepsAboveTheMask : Obligations.InterruptsAreTakenBetweenStepsAboveTheMask := by
  intro s offer rest hevents s' accepted
  have hiff : s'.accepts offer = true ↔ accepted := s'.accepts_iff offer
  have hstep : step s = .next (s'.offerInterrupt offer) := step_event hevents
  refine ⟨fun h => ?accepted, fun h => ?dropped⟩
  case accepted =>
    rw [State.offerInterrupt_accepted (hiff.2 h)] at hstep
    exact ⟨_, hstep, Entered.interrupt s' offer, rfl, by cases offer <;> rfl, rfl, rfl, rfl⟩
  case dropped => rw [hstep, State.offerInterrupt_refused (Bool.eq_false_iff.2 (mt hiff.1 h))]

/-! ## TRAPA, then RTE (R628, R636) -/

/-- A value without reserved bits is stored whole (10 R35, R37). -/
theorem and_srMask_of_reserved {v : Word} (h : v &&& ~~~srMask = 0) : v &&& srMask = v := by
  have hsplit : v &&& (srMask ||| ~~~srMask) = v := by
    rw [BitVec.or_not_self]; exact BitVec.and_allOnes
  rw [BitVec.and_or_distrib_left, h] at hsplit
  exact BitVec.or_zero.symm.trans hsplit

/-- Settles O57: the entry saved SR and PC + 2, and leaves the mode RTE is permitted in. -/
theorem trapThenReturnResumesAfterTheTrap : Obligations.TrapThenReturnResumesAfterTheTrap := by
  intro i s hinv hentry hbl
  have hentered := Entered.exception (.trap i) s
  refine ⟨_, takeException_reference hinv.slot hentry hbl (.trap i), ?_⟩
  refine ⟨_, (exec_rte _).trans (State.privileged_permitted (.inr hentered.md) _), ?status, _, rfl⟩
  case status => exact and_srMask_of_reserved hinv.status

end Sys2Proof.Machine
end

section
/-! SLEEP (47 R586) and the reset (70 R680, R681). -/

namespace Sys2Proof.Machine

variable {s u : State}

/-! ## What clears Sleeping -/

/-- A debugger does not wake the engine (log 16). -/
theorem State.debugWrite_sleeping (h : s.sleeping = true) (target : DebugTarget) (v : Word) :
    (s.debugWrite target v).sleeping = true := by
  cases target with
  | r i => exact (State.setR_sleeping s i v).trans h
  | rBank b => exact (State.setRBank_sleeping s b v).trans h
  | sleeping => exact (congrArg (· || v.getLsbD 0) h).trans (Bool.true_or _)
  | sr | gbr | vbr | sgr | ssr | spc | dbr | pr | mach | macl | pc | ldst | memory => exact h

/-- A sleeping engine's scheduled step leaves it as it is, marked or not (log 9, log 20). -/
theorem scheduledStep_sleeping (hds : s.ds = .normal) (h : s.sleeping = true) : scheduledStep s = s := by
  cases hm : s.mark with
  | none => exact scheduledStep_next (engineStep_sleeping hm hds h)
  | some m => exact scheduledStep_marked hm

/-- R586: only a reset and an accepted interrupt clear Sleeping. -/
theorem runEvent_wakes {e : Event} (hds : s.ds = .normal) (hs : s.sleeping = true) (h : runEvent e s = .next u)
    (hu : u.sleeping = false) : e = .reset ∨ ∃ offer, e = .interrupt offer ∧ s.accepts offer = true := by
  cases e with
  | engine =>
    cases h
    rw [scheduledStep_sleeping hds hs] at hu
    exact nomatch hs.symm.trans hu
  | reset => exact .inl rfl
  | interrupt offer =>
    cases ha : s.accepts offer with
    | true => exact .inr ⟨offer, rfl, ha⟩
    | false =>
      cases h
      rw [State.offerInterrupt_refused ha] at hu
      exact nomatch hs.symm.trans hu
  | debugWrite target v =>
    cases h
    exact nomatch (State.debugWrite_sleeping hs target v).symm.trans hu

/-- Settles O49: the instruction, the sleeping step, and the events that end it. -/
theorem sleepHoldsTheEngine : Obligations.SleepHoldsTheEngine := by
  refine ⟨fun s => ⟨decode_encode .sleep, fun hp => ?sleeps, exec_denied rfl, 0, 0, 0, by simp⟩,
    fun s hevents hm hds hs => (step_engine hevents).trans (engineStep_sleeping hm hds hs),
    fun s u e rest hds hs hevents h => ?wakes⟩
  case sleeps => exact ⟨_, exec_permitted rfl hp, rfl, OnlyWrites.done { s with sleeping := true }⟩
  case wakes => exact runEvent_wakes (s := { s with events := rest }) hds hs ((step_event hevents).symm.trans h)

/-! ## The reset -/

theorem Bank.read_zero (i : BankReg) : Bank.read Bank.zero i = 0 := by
  unfold Bank.read Bank.zero
  exact Vector.getElem_replicate _

/-- Every name reads 0 while the three banks are zero, whichever is selected (10 R30, R33). -/
theorem State.r_zero (h0 : s.b0 = Bank.zero) (h1 : s.b1 = Bank.zero) (hh : s.rh = Bank.zero) (i : Reg) : s.r i = 0 := by
  unfold State.r
  rw [h0, h1, hh, Bank.read_zero, ite_self, ite_self]

theorem State.rBank_zero (h0 : s.b0 = Bank.zero) (h1 : s.b1 = Bank.zero) (b : BankReg) : s.rBank b = 0 := by
  unfold State.rBank
  rw [h0, h1, Bank.read_zero, ite_self]

/-- A reset of a state that has just been reset changes nothing (R680, R681). -/
theorem State.externalReset_reset : State.reset.externalReset = State.reset := rfl

/-- Settles O1: the reset's values are the same from every state, so from State.reset too, which it leaves alone. -/
theorem resetLeavesTheValuesTheSpecGives : Obligations.ResetLeavesTheValuesTheSpecGives := by
  unfold Obligations.ResetLeavesTheValuesTheSpecGives
  intro Values
  have hvalues (s : State) : Values s.externalReset :=
    ⟨State.r_zero rfl rfl rfl, State.rBank_zero rfl rfl, rfl, rfl, rfl, rfl, rfl, rfl, rfl, rfl, rfl, rfl, rfl, rfl,
      rfl, rfl⟩
  refine ⟨State.externalReset_reset ▸ hvalues State.reset, fun s rest hevents => ?event⟩
  case event => exact ⟨_, step_event hevents, hvalues { s with events := rest }, rfl, fun _ => rfl⟩

end Sys2Proof.Machine
end
